-- ==== Sys2Proof/Word.lean ====
section
/-! DEFINITION. The one word type of the block: a byte (rule R10). -/

namespace Sys2Proof

/-- A byte, bit 7 the most significant (R10). -/
abbrev Byte := BitVec 8

end Sys2Proof
end

