-- ==== Sys2Proof/Config.lean ====
section
/-! DEFINITION. The implementation parameters of rule R8, their constraints (R9), and the constants without a body
that stand for everything the spec leaves open. -/

namespace Sys2Proof

/-- The eight commands of the opcode map (R70). -/
inductive Opcode where
  | forward | reverse | rotate | turn | driveRaw | stop | keepHeading | resetOrientation
deriving DecidableEq, Repr, Inhabited

/-- The argument names of the source's signatures (R79). -/
inductive ArgName where
  | speed | distance | angle | radius | leftSpeed | rightSpeed | hard | heading
deriving DecidableEq, Repr

/-- The three kinds of argument slot (R69). -/
inductive SlotKind where
  | u8 | sm | bool
deriving DecidableEq, Repr

/-- One slot of a command's layout: its kind and the argument it carries (R69, R116). -/
structure Slot where
  kind : SlotKind
  arg : ArgName
deriving DecidableEq, Repr

/-- A sign convention: which direction byte a negative value takes (R114). -/
inductive SignConv where
  | neg1 | neg0
deriving DecidableEq, Repr, Inhabited

/-- `SIGN_CONV`, defined for exactly the five opcodes that have an `SM` slot (R114). -/
structure SignTable where
  forward : SignConv
  reverse : SignConv
  rotate : SignConv
  turn : SignConv
  keepHeading : SignConv
deriving DecidableEq, Repr, Inhabited

/-- `SIGN_CONV` as a partial function of the opcode (R114). -/
def SignTable.conv (t : SignTable) : Opcode → Option SignConv
  | .forward => some t.forward
  | .reverse => some t.reverse
  | .rotate => some t.rotate
  | .turn => some t.turn
  | .keepHeading => some t.keepHeading
  | .driveRaw => none
  | .stop => none
  | .resetOrientation => none

/-- `LAYOUT`: the slots after `[START_MARKER, opcode]`, per opcode (R116). -/
structure Layout where
  forward : List Slot
  reverse : List Slot
  rotate : List Slot
  turn : List Slot
  driveRaw : List Slot
  stop : List Slot
  keepHeading : List Slot
  resetOrientation : List Slot
deriving DecidableEq, Repr

/-- `LAYOUT` as a function of the opcode (R8). -/
def Layout.slots (l : Layout) : Opcode → List Slot
  | .forward => l.forward
  | .reverse => l.reverse
  | .rotate => l.rotate
  | .turn => l.turn
  | .driveRaw => l.driveRaw
  | .stop => l.stop
  | .keepHeading => l.keepHeading
  | .resetOrientation => l.resetOrientation

/-- The default table of R116. -/
def Layout.default : Layout where
  forward := [⟨.u8, .speed⟩, ⟨.sm, .distance⟩]
  reverse := [⟨.u8, .speed⟩, ⟨.sm, .distance⟩]
  rotate := [⟨.u8, .speed⟩, ⟨.sm, .angle⟩]
  turn := [⟨.u8, .speed⟩, ⟨.sm, .angle⟩, ⟨.u8, .radius⟩]
  driveRaw := [⟨.u8, .leftSpeed⟩, ⟨.u8, .rightSpeed⟩]
  stop := [⟨.bool, .hard⟩]
  keepHeading := [⟨.u8, .speed⟩, ⟨.sm, .heading⟩, ⟨.sm, .distance⟩]
  resetOrientation := []

/-- `HEADING_CONCAT_MODE` (R174). -/
inductive HeadingMode where
  | padded8 | unpadded
deriving DecidableEq, Repr

/-- The parameters of R8. `maxBody = none` is `unbounded`; durations are natural numbers of an unnamed unit
(DESIGN CHOICE, log 16). Held in the state as a value that no operation writes (DESIGN CHOICE, log 1). -/
structure Config where
  flag : Byte
  esc : Byte
  mask : Byte
  strictUnstuff : Bool
  maxBody : Option Nat
  respMarker : Byte
  markerCheck : Bool
  tagReady : Byte
  tagOdometry : Byte
  tagTargetReached : Byte
  signConv : SignTable
  layout : Layout
  argW : Nat
  headingMode : HeadingMode
  settleDelay : Nat
  timeout : Option Nat
deriving DecidableEq, Repr

/-- `START_MARKER` (R7). -/
def Config.startMarker : Byte := 0xA3

/-- The arguments each opcode's signature names, in order (R70). -/
def Opcode.args : Opcode → List ArgName
  | .forward => [.speed, .distance]
  | .reverse => [.speed, .distance]
  | .rotate => [.speed, .angle]
  | .turn => [.speed, .angle, .radius]
  | .driveRaw => [.leftSpeed, .rightSpeed]
  | .stop => [.hard]
  | .keepHeading => [.speed, .heading, .distance]
  | .resetOrientation => []

/-- A slot that its opcode can fill: it names an argument of the command, an `SM` slot stands only where `SIGN_CONV`
is defined (R114), and `hard` alone takes a `BOOL` slot (R116). -/
def Slot.fits (op : Opcode) (sl : Slot) : Bool :=
  op.args.contains sl.arg && ((sl.kind == .bool) == (sl.arg == .hard)) &&
    (sl.kind != .sm || [Opcode.forward, .reverse, .rotate, .turn, .keepHeading].contains op)

/-- Every slot of the layout is one its opcode can fill (DESIGN CHOICE on what replaces the table, log 21). -/
def Layout.ok (l : Layout) : Bool :=
  [Opcode.forward, .reverse, .rotate, .turn, .driveRaw, .stop, .keepHeading, .resetOrientation].all
    fun op => (l.slots op).all (Slot.fits op)

/-- The constraints on FLAG, ESC and MASK (R9). -/
abbrev Config.codecValid (c : Config) : Prop :=
  c.flag ≠ c.esc ∧ c.mask ≠ 0 ∧ c.flag ^^^ c.mask ≠ c.flag ∧ c.flag ^^^ c.mask ≠ c.esc ∧
    c.esc ^^^ c.mask ≠ c.flag ∧ c.esc ^^^ c.mask ≠ c.esc

/-- The three inbound tags are pairwise different (R9). -/
abbrev Config.tagsValid (c : Config) : Prop :=
  c.tagReady ≠ c.tagOdometry ∧ c.tagReady ≠ c.tagTargetReached ∧ c.tagOdometry ≠ c.tagTargetReached

/-- A parameter choice the model counts as allowed: R9, SETTLE_DELAY greater than 0 (R8), TIMEOUT none (R199). Besides,
that ARG_W is not 0, which R8 and R9 leave open (DESIGN CHOICE, log 12), and that every slot of the layout can be filled
(DESIGN CHOICE, log 21). -/
abbrev Config.valid (c : Config) : Prop :=
  c.codecValid ∧ c.tagsValid ∧ c.layout.ok = true ∧ 0 < c.settleDelay ∧ c.timeout = none ∧ 0 < c.argW

/-- OPEN `RESP_MARKER` (R151; log 2). -/
opaque Config.openRespMarker : Byte

/-- OPEN inbound tags (R152): any three pairwise different bytes are the images of 0, 1 and 2 under some permutation
of the bytes (log 2). -/
opaque Config.openTags : Equiv.Perm Byte

/-- OPEN `SIGN_CONV` (R114; log 2). -/
opaque Config.openSignConv : SignTable

/-- OPEN `SETTLE_DELAY` less one, so that the delay is greater than 0 (R8; log 2). -/
opaque Config.openSettleDelay : Nat

/-- What a call returns whose write failed: `any value` (93 U14; log 13). -/
inductive CallOutcome where
  | success | failure
deriving DecidableEq, Repr, Inhabited

/-- Free value: the result of a call whose write failed (93 U14; log 13). -/
opaque Config.freeCallOutcome : Nat → CallOutcome

/-- Free value: what the transport's error for a failed write carries, `whatever the transport gives` (R211; log 13). -/
opaque Config.freeErrorInfo : Nat → Nat

/-- Free value: before how many of the turns still to be taken the error for a failed write is not reported; both
orders of a transport notification and a block event are possible (93 U14, U17; log 13). -/
opaque Config.freeErrorPlace : Nat → Nat

/-- Free value: whether the connection still counts as active after a close or disconnect (93 U16; log 14). -/
opaque Config.freeStaysActive : Nat → Bool

/-- Whether the call of a non-bearing command returns nothing (true) or an immediate result (false): not in the
source (R194, 93 U18; log 15). -/
opaque Config.returnsNothing : Opcode → Bool

/-- The parameters of the machine at reset: the decided values of R8, the OPEN ones uninterpreted. -/
def Config.machine : Config where
  flag := 0x7E
  esc := 0x7D
  mask := 0x20
  strictUnstuff := true
  maxBody := none
  respMarker := Config.openRespMarker
  markerCheck := true
  tagReady := Config.openTags 0
  tagOdometry := Config.openTags 1
  tagTargetReached := Config.openTags 2
  signConv := Config.openSignConv
  layout := Layout.default
  argW := 16
  headingMode := .padded8
  settleDelay := Config.openSettleDelay + 1
  timeout := none

end Sys2Proof
end

