-- ==== Sys2Proof/Machine/Frames.lean ====
section
/-! DEFINITION. The classes of a decoded inbound frame and the test that selects one (rules R66 to R68, R150 to
R155). -/

namespace Sys2Proof.Machine

/-- The four classes (R152); an odometry frame comes with its six payload bytes (R67). -/
inductive FrameClass where
  | ready
  | odometry (leftDir leftDelta rightDir rightDelta headingMsb headingLsb : Byte)
  | targetReached
  | unknown
deriving DecidableEq, Repr

/-- The class of a frame with the odometry tag: with all six payload bytes odometry, bytes after them ignored, else
unknown (R153). -/
def odometryClass : List Byte → FrameClass
  | q0 :: q1 :: q2 :: q3 :: q4 :: q5 :: _ => .odometry q0 q1 q2 q3 q4 q5
  | _ => .unknown

/-- The class of a decoded frame: length, then marker, then tag, then the odometry length (R150, R218). -/
def frameClass (c : Config) : List Byte → FrameClass
  | marker :: tag :: payload =>
    if c.markerCheck && marker != c.respMarker then .unknown
    else if tag = c.tagReady then .ready
    else if tag = c.tagOdometry then odometryClass payload
    else if tag = c.tagTargetReached then .targetReached
    else .unknown
  | _ => .unknown

end Sys2Proof.Machine
end

