-- ==== Sys2Proof/Syntax.lean ====
section
/-! DEFINITION. The instructions: one constructor per row of spec/opcode_table.json, with the operands the row's rule
names. -/

namespace Sys2Proof

/-- An argument value: an integer of any size (R112), or for `hard` a Boolean, which may also be given as an integer
where 0 is false and any other value true (R79, R115). -/
inductive ArgValue where
  | bool (b : Bool)
  | int (v : Int)
deriving DecidableEq, Repr

/-- The seven commands other than stop, with unbounded integer arguments (R110, R112). -/
inductive Motion where
  | forward (speed distance : Int)
  | reverse (speed distance : Int)
  | rotate (speed angle : Int)
  | turn (speed angle radius : Int)
  | driveRaw (leftSpeed rightSpeed : Int)
  | keepHeading (speed heading distance : Int)
  | resetOrientation
deriving DecidableEq, Repr

/-- A command record: one of the eight motion primitives (R70). -/
inductive Cmd where
  | motion (m : Motion)
  | stop (hard : ArgValue)
deriving DecidableEq, Repr

/-- The pseudo-instructions of R80: a distance left out is 0. -/
def Motion.forwardCall (speed : Int) (distance : Int := 0) : Motion := .forward speed distance
/-- `reverse(speed)` is `reverse(speed, 0)` (R80). -/
def Motion.reverseCall (speed : Int) (distance : Int := 0) : Motion := .reverse speed distance
/-- `keepHeading(speed, heading)` is `keepHeading(speed, heading, 0)` (R80). -/
def Motion.keepHeadingCall (speed heading : Int) (distance : Int := 0) : Motion :=
  .keepHeading speed heading distance

/-- The opcode of a motion command (R70). -/
def Motion.opcode : Motion → Opcode
  | .forward _ _ => .forward
  | .reverse _ _ => .reverse
  | .rotate _ _ => .rotate
  | .turn _ _ _ => .turn
  | .driveRaw _ _ => .driveRaw
  | .keepHeading _ _ _ => .keepHeading
  | .resetOrientation => .resetOrientation

/-- The opcode of a command (R70). -/
def Cmd.opcode : Cmd → Opcode
  | .motion m => m.opcode
  | .stop _ => .stop

/-- The formats of the opcode table (R82). -/
inductive Format where
  | cmd | rsp | wire | op | host
deriving DecidableEq, Repr

/-- The instruction set: the 38 rows of spec/opcode_table.json. A frame that must not be empty is given as its first
byte and the rest. -/
inductive Instr where
  -- format CMD
  | forward (speed distance : Int)
  | reverse (speed distance : Int)
  | rotate (speed angle : Int)
  | turn (speed angle radius : Int)
  | driveRaw (leftSpeed rightSpeed : Int)
  | stop (hard : ArgValue)
  | keepHeading (speed heading distance : Int)
  | resetOrientation
  -- format RSP
  | ready
  | odometry (leftDir leftDelta rightDir rightDelta headingMsb headingLsb : Byte)
  | targetReached
  | unknown (first : Byte) (rest : List Byte)
  -- format WIRE
  | delimiter
  | escapedFlag
  | escapedEsc
  | literal (data : Byte)
  | badEscape (data : Byte)
  | danglingEscape
  -- format OP
  | stuff (p : List Byte)
  | encode (p : List Byte)
  | unstuff (body : List Byte)
  | decode (w : List Byte)
  | cmdencode (c : Cmd)
  | txcmd (c : Cmd)
  | rxbyte (b : Byte)
  | rxchunk (c : List Byte)
  | closeframe
  | classify (first : Byte) (rest : List Byte)
  | ticks (d n : Byte)
  | parsefixed (msb lsb : Byte)
  | heading (msb lsb : Byte)
  | telemetry (q0 q1 q2 q3 q4 q5 : Byte)
  | reset
  -- format HOST
  | issue (m : Motion)
  | ontargetreached
  | stopcmd (hard : ArgValue)
  | cancel
  | init
deriving DecidableEq, Repr

/-- The table's "format" of an instruction's row (R82). -/
def Instr.format : Instr → Format
  | .forward _ _ => .cmd
  | .reverse _ _ => .cmd
  | .rotate _ _ => .cmd
  | .turn _ _ _ => .cmd
  | .driveRaw _ _ => .cmd
  | .stop _ => .cmd
  | .keepHeading _ _ _ => .cmd
  | .resetOrientation => .cmd
  | .ready => .rsp
  | .odometry _ _ _ _ _ _ => .rsp
  | .targetReached => .rsp
  | .unknown _ _ => .rsp
  | .delimiter => .wire
  | .escapedFlag => .wire
  | .escapedEsc => .wire
  | .literal _ => .wire
  | .badEscape _ => .wire
  | .danglingEscape => .wire
  | .stuff _ => .op
  | .encode _ => .op
  | .unstuff _ => .op
  | .decode _ => .op
  | .cmdencode _ => .op
  | .txcmd _ => .op
  | .rxbyte _ => .op
  | .rxchunk _ => .op
  | .closeframe => .op
  | .classify _ _ => .op
  | .ticks _ _ => .op
  | .parsefixed _ _ => .op
  | .heading _ _ => .op
  | .telemetry _ _ _ _ _ _ => .op
  | .reset => .op
  | .issue _ => .host
  | .ontargetreached => .host
  | .stopcmd _ => .host
  | .cancel => .host
  | .init => .host

/-- The command a CMD row's instruction stands for (R110); no other row stands for one. -/
def Instr.command : Instr → Option Cmd
  | .forward s d => some (.motion (.forward s d))
  | .reverse s d => some (.motion (.reverse s d))
  | .rotate s a => some (.motion (.rotate s a))
  | .turn s a r => some (.motion (.turn s a r))
  | .driveRaw l r => some (.motion (.driveRaw l r))
  | .stop h => some (.stop h)
  | .keepHeading s h d => some (.motion (.keepHeading s h d))
  | .resetOrientation => some (.motion .resetOrientation)
  | .ready => none
  | .odometry _ _ _ _ _ _ => none
  | .targetReached => none
  | .unknown _ _ => none
  | .delimiter => none
  | .escapedFlag => none
  | .escapedEsc => none
  | .literal _ => none
  | .badEscape _ => none
  | .danglingEscape => none
  | .stuff _ => none
  | .encode _ => none
  | .unstuff _ => none
  | .decode _ => none
  | .cmdencode _ => none
  | .txcmd _ => none
  | .rxbyte _ => none
  | .rxchunk _ => none
  | .closeframe => none
  | .classify _ _ => none
  | .ticks _ _ => none
  | .parsefixed _ _ => none
  | .heading _ _ => none
  | .telemetry _ _ _ _ _ _ => none
  | .reset => none
  | .issue _ => none
  | .ontargetreached => none
  | .stopcmd _ => none
  | .cancel => none
  | .init => none

end Sys2Proof
end

