-- ==== Sys2Proof/Machine/Operands.lean ====
section
/-! DEFINITION. The operand forms of the command encoder: magnitude, direction, unsigned and Boolean bytes, the slots
of a layout, and the generic encoder CMDENCODE (rules R111 to R117). The block has no flags (R29), so there is no
flag computation. -/

namespace Sys2Proof.Machine

/-- The opcode bytes (R7, R70). -/
def opcodeByte : Opcode → Byte
  | .forward => 0x10
  | .reverse => 0x11
  | .rotate => 0x12
  | .turn => 0x13
  | .driveRaw => 0x14
  | .stop => 0x15
  | .keepHeading => 0x16
  | .resetOrientation => 0x20

/-- `clamp(v, lo, hi) = min(max(v, lo), hi)` (R11). -/
def clamp (v lo hi : Int) : Int := min (max v lo) hi

/-- `mag(v) = clamp(abs(v), 0, 255)`, over the integers (R113). -/
def mag (v : Int) : Byte := BitVec.ofInt 8 (clamp |v| 0 255)

/-- The direction byte of a negative value under a convention (R114). -/
def negByte : SignConv → Byte
  | .neg1 => 1
  | .neg0 => 0

/-- The direction byte of a value that is not negative, zero among them (R114). -/
def nonnegByte : SignConv → Byte
  | .neg1 => 0
  | .neg0 => 1

/-- The direction byte of a value under a convention (R114). -/
def dirByte (k : SignConv) (v : Int) : Byte := if v < 0 then negByte k else nonnegByte k

/-- `u8(v) = clamp(v, 0, 255)` (R115). -/
def u8 (v : Int) : Byte := BitVec.ofInt 8 (clamp v 0 255)

/-- The truth of a Boolean argument: an integer is true when it is not 0 (R115). -/
def truth : ArgValue → Bool
  | .bool b => b
  | .int v => v != 0

/-- The byte of a `BOOL` slot (R115). -/
def boolByte (h : ArgValue) : Byte := if truth h then 1 else 0

/-- The argument of a command that a name stands for, none where the command has no such argument (R70, R79). -/
def argOf : Cmd → ArgName → Option ArgValue
  | .motion (.forward s _), .speed => some (.int s)
  | .motion (.forward _ d), .distance => some (.int d)
  | .motion (.reverse s _), .speed => some (.int s)
  | .motion (.reverse _ d), .distance => some (.int d)
  | .motion (.rotate s _), .speed => some (.int s)
  | .motion (.rotate _ a), .angle => some (.int a)
  | .motion (.turn s _ _), .speed => some (.int s)
  | .motion (.turn _ a _), .angle => some (.int a)
  | .motion (.turn _ _ r), .radius => some (.int r)
  | .motion (.driveRaw l _), .leftSpeed => some (.int l)
  | .motion (.driveRaw _ r), .rightSpeed => some (.int r)
  | .motion (.keepHeading s _ _), .speed => some (.int s)
  | .motion (.keepHeading _ h _), .heading => some (.int h)
  | .motion (.keepHeading _ _ d), .distance => some (.int d)
  | .stop h, .hard => some h
  | _, _ => none

/-- The bytes of one slot (R113, R115, R117). A slot that its command cannot fill, which `Layout.ok` excludes,
contributes no byte (DESIGN CHOICE, log 21). -/
def slotBytes (c : Config) (cmd : Cmd) (sl : Slot) : List Byte :=
  match sl.kind, argOf cmd sl.arg with
  | .u8, some (.int v) => [u8 v]
  | .sm, some (.int v) =>
    match c.signConv.conv cmd.opcode with
    | some k => [mag v, dirByte k v]
    | none => []
  | .bool, some h => [boolByte h]
  | _, _ => []

/-- `CMDENCODE(cmd)`: the decoded frame of a command (R111, R117). -/
def cmdEncode (c : Config) (cmd : Cmd) : List Byte :=
  [Config.startMarker, opcodeByte cmd.opcode] ++ (c.layout.slots cmd.opcode).flatMap (slotBytes c cmd)

end Sys2Proof.Machine
end

