-- ==== Sys2Proof/Decode.lean ====
section
/-! DEFINITION. The decoder of the rows that have a pattern (CMD and RSP over decoded frames, WIRE over wire bytes,
rules R62, R66, R71, R78, R82), total on any bytes and rejecting by name; the encoder; and the words of
spec/opcode_table.json. -/

namespace Sys2Proof

/-- Why bytes are no instruction of a format. -/
inductive DecodeError where
  /-- The format has no bit pattern: OP and HOST rows (R82). -/
  | noPattern
  /-- There is no byte. -/
  | empty
  /-- The bytes end inside the instruction. -/
  | truncated
  /-- Byte 0 of an outbound frame is not START_MARKER (R111). -/
  | badMarker (b : Byte)
  /-- Byte 1 of an outbound frame is none of the eight opcodes (R75). -/
  | unassignedOpcode (b : Byte)
  /-- A direction byte of a command is neither 0 nor 1 (R81). -/
  | badDirection (b : Byte)
  /-- A BOOL byte of a command is neither 0 nor 1 (R115). -/
  | badBool (b : Byte)
  /-- The layout has no slot for an argument, or an SM slot where SIGN_CONV is not defined. -/
  | badLayout (a : ArgName)
deriving DecidableEq, Repr

/-- The first symbol of a wire byte sequence and the bytes after it (R62, R74, R78). -/
def decodeWire (c : Config) : List Byte → Except DecodeError (Instr × List Byte)
  | [] => .error .empty
  | [b] =>
    if b = c.flag then .ok (.delimiter, [])
    else if b = c.esc then .error .truncated
    else .ok (.literal b, [])
  | b :: e :: rest =>
    if b = c.flag then .ok (.delimiter, e :: rest)
    else if b = c.esc then
      if e = c.flag then .ok (.danglingEscape, rest)
      else if e = c.flag ^^^ c.mask then .ok (.escapedFlag, rest)
      else if e = c.esc ^^^ c.mask then .ok (.escapedEsc, rest)
      else .ok (.badEscape e, rest)
    else .ok (.literal b, e :: rest)

/-- A decoded inbound frame as an instruction (R66 to R68, R76). -/
def decodeRsp (c : Config) : List Byte → Except DecodeError (Instr × List Byte)
  | [] => .error .empty
  | first :: rest =>
    match Machine.frameClass c (first :: rest) with
    | .ready => .ok (.ready, [])
    | .odometry q0 q1 q2 q3 q4 q5 => .ok (.odometry q0 q1 q2 q3 q4 q5, [])
    | .targetReached => .ok (.targetReached, [])
    | .unknown => .ok (.unknown first rest, [])

/-- The opcode map read backwards (R70, R75). -/
def opcodeOf (b : Byte) : Option Opcode :=
  [Opcode.forward, .reverse, .rotate, .turn, .driveRaw, .stop, .keepHeading, .resetOrientation].find?
    fun op => Machine.opcodeByte op == b

/-- The value of an SM slot's two bytes: magnitude 0 is 0 with either direction (DESIGN CHOICE, log 8); a direction
byte is 0 or 1 (R81). -/
def signedValue (k : SignConv) (m d : Byte) : Except DecodeError Int :=
  if d ≠ 0 ∧ d ≠ 1 then .error (.badDirection d)
  else if m = 0 then .ok 0
  else if d = Machine.negByte k then .ok (-(m.toNat : Int))
  else .ok m.toNat

/-- The value of one slot and the bytes after it. -/
def takeSlot (k? : Option SignConv) (sl : Slot) (bs : List Byte) : Except DecodeError (ArgValue × List Byte) :=
  match sl.kind, bs with
  | .u8, b :: bs => .ok (.int b.toNat, bs)
  | .bool, b :: bs => if b = 0 then .ok (.bool false, bs) else if b = 1 then .ok (.bool true, bs) else .error (.badBool b)
  | .sm, m :: d :: bs =>
    match k? with
    | none => .error (.badLayout sl.arg)
    | some k => (signedValue k m d).map fun v => (.int v, bs)
  | _, _ => .error .truncated

/-- The values of a list of slots, in order, and the bytes after them. -/
def takeSlots (k? : Option SignConv) : List Slot → List Byte → Except DecodeError (List (ArgName × ArgValue) × List Byte)
  | [], bs => .ok ([], bs)
  | sl :: sls, bs =>
    match takeSlot k? sl bs with
    | .error e => .error e
    | .ok (v, bs) =>
      match takeSlots k? sls bs with
      | .error e => .error e
      | .ok (as, bs) => .ok ((sl.arg, v) :: as, bs)

/-- The integer that a list of values gives an argument. -/
def intArg (as : List (ArgName × ArgValue)) (a : ArgName) : Except DecodeError Int :=
  match as.lookup a with
  | some (.int v) => .ok v
  | _ => .error (.badLayout a)

/-- The instruction of an opcode and its arguments (R70). -/
def buildCommand (as : List (ArgName × ArgValue)) : Opcode → Except DecodeError Instr
  | .forward => do return .forward (← intArg as .speed) (← intArg as .distance)
  | .reverse => do return .reverse (← intArg as .speed) (← intArg as .distance)
  | .rotate => do return .rotate (← intArg as .speed) (← intArg as .angle)
  | .turn => do return .turn (← intArg as .speed) (← intArg as .angle) (← intArg as .radius)
  | .driveRaw => do return .driveRaw (← intArg as .leftSpeed) (← intArg as .rightSpeed)
  | .stop =>
    match as.lookup .hard with
    | some h => .ok (.stop h)
    | none => .error (.badLayout .hard)
  | .keepHeading => do return .keepHeading (← intArg as .speed) (← intArg as .heading) (← intArg as .distance)
  | .resetOrientation => .ok .resetOrientation

/-- An outbound decoded frame as a command, and the bytes after it (R65, R71). -/
def decodeCmd (c : Config) : List Byte → Except DecodeError (Instr × List Byte)
  | [] => .error .empty
  | [m] => if m = Config.startMarker then .error .truncated else .error (.badMarker m)
  | m :: b :: rest =>
    if m ≠ Config.startMarker then .error (.badMarker m)
    else
      match opcodeOf b with
      | none => .error (.unassignedOpcode b)
      | some op =>
        match takeSlots (c.signConv.conv op) (c.layout.slots op) rest with
        | .error e => .error e
        | .ok (as, left) =>
          match buildCommand as op with
          | .error e => .error e
          | .ok i => .ok (i, left)

/-- The first instruction of a byte sequence of a given format, and the bytes after it. -/
def decode (c : Config) : Format → List Byte → Except DecodeError (Instr × List Byte)
  | .cmd, bs => decodeCmd c bs
  | .rsp, bs => decodeRsp c bs
  | .wire, bs => decodeWire c bs
  | .op, _ => .error .noPattern
  | .host, _ => .error .noPattern

/-- The bytes of an instruction of a row that has a pattern (R62, R67, R68, R71); OP and HOST rows have none (R82). -/
def encode (c : Config) : Instr → Option (List Byte)
  | .forward s d => some (Machine.cmdEncode c (.motion (.forward s d)))
  | .reverse s d => some (Machine.cmdEncode c (.motion (.reverse s d)))
  | .rotate s a => some (Machine.cmdEncode c (.motion (.rotate s a)))
  | .turn s a r => some (Machine.cmdEncode c (.motion (.turn s a r)))
  | .driveRaw l r => some (Machine.cmdEncode c (.motion (.driveRaw l r)))
  | .stop h => some (Machine.cmdEncode c (.stop h))
  | .keepHeading s h d => some (Machine.cmdEncode c (.motion (.keepHeading s h d)))
  | .resetOrientation => some (Machine.cmdEncode c (.motion .resetOrientation))
  | .ready => some [c.respMarker, c.tagReady]
  | .odometry q0 q1 q2 q3 q4 q5 => some [c.respMarker, c.tagOdometry, q0, q1, q2, q3, q4, q5]
  | .targetReached => some [c.respMarker, c.tagTargetReached]
  | .unknown f r => some (f :: r)
  | .delimiter => some [c.flag]
  | .escapedFlag => some [c.esc, c.flag ^^^ c.mask]
  | .escapedEsc => some [c.esc, c.esc ^^^ c.mask]
  | .literal d => some [d]
  | .badEscape e => some [c.esc, e]
  | .danglingEscape => some [c.esc, c.flag]
  | .stuff _ => none
  | .encode _ => none
  | .unstuff _ => none
  | .decode _ => none
  | .cmdencode _ => none
  | .txcmd _ => none
  | .rxbyte _ => none
  | .rxchunk _ => none
  | .closeframe => none
  | .classify _ _ => none
  | .ticks _ _ => none
  | .parsefixed _ _ => none
  | .heading _ _ => none
  | .telemetry _ _ _ _ _ _ => none
  | .reset => none
  | .issue _ => none
  | .ontargetreached => none
  | .stopcmd _ => none
  | .cancel => none
  | .init => none

/-- The bytes of one 16-bit table word: byte 0 is the high byte (R82; DEDUCED, log 9). -/
def wordBytes (w : Nat) : List Byte := [BitVec.ofNat 8 (w / 256), BitVec.ofNat 8 w]

/-- The longest table pattern padded to eight bytes, the longest decoded frame of a row (R67). -/
def padBytes (bs : List Byte) : List Byte := bs ++ List.replicate (8 - bs.length) 0

/-- `n` 16-bit words of a table value, the first from its lowest bits. -/
def tableWords : Nat → Nat → List Byte
  | 0, _ => []
  | n + 1, w => wordBytes (w % 65536) ++ tableWords n (w / 65536)

/-- The bytes of a table pattern of `nbits` bits, every bit above them 0 (log 9). -/
def tableBytes (nbits w : Nat) : List Byte :=
  if nbits ≤ 8 then padBytes [BitVec.ofNat 8 w] else padBytes (tableWords ((nbits + 15) / 16) w)

/-- The level at which a table pattern is read: one byte, or a pattern that begins with FLAG or ESC, is a wire
pattern, one that begins with START_MARKER a command, any other an inbound frame (log 9). -/
def tableFormat (c : Config) (nbits : Nat) (bs : List Byte) : Format :=
  if nbits ≤ 8 then .wire
  else
    match bs with
    | [] => .wire
    | b :: _ => if b = c.flag ∨ b = c.esc then .wire else if b = Config.startMarker then .cmd else .rsp

/-- The instruction the decoder reads from a pattern of spec/opcode_table.json. -/
def decodeTableWord (nbits w : Nat) : Option Instr :=
  match decode Config.machine (tableFormat Config.machine nbits (tableBytes nbits w)) (tableBytes nbits w) with
  | .ok (i, _) => some i
  | .error _ => none

end Sys2Proof
end

