-- ==== Sys2Proof/Machine/Codec.lean ====
section
/-! DEFINITION. The frame codec: STUFF, ENCODE, UNSTUFF, DECODE as pure functions of the parameters and a byte
sequence (rules R90 to R99). -/

namespace Sys2Proof.Machine

/-- The causes of `FrameError::Malformed` (R37, R211). -/
inductive Cause where
  | danglingEscape | badEscape | embeddedDelimiter | overrun
deriving DecidableEq, Repr

/-- What UNSTUFF and DECODE return: `Ok(payload)` or `Malformed(cause)` (R96). -/
inductive Unstuffed where
  | ok (payload : List Byte)
  | malformed (cause : Cause)
deriving DecidableEq, Repr

/-- `reserved(b)`: the byte is FLAG or ESC (R91). -/
def reserved (c : Config) (b : Byte) : Bool := b == c.flag || b == c.esc

/-- The symbol that stands for one decoded byte (R62). -/
def symbol (c : Config) (d : Byte) : List Byte := if reserved c d then [c.esc, d ^^^ c.mask] else [d]

/-- `STUFF(p)` (R92). -/
def stuff (c : Config) (p : List Byte) : List Byte := p.flatMap (symbol c)

/-- `ENCODE(p) = STUFF(p) ++ [FLAG]` (R93). -/
def frameEncode (c : Config) (p : List Byte) : List Byte := stuff c p ++ [c.flag]

/-- One more decoded byte in front; an ill-formed place found later stays the outcome. -/
def consByte (d : Byte) : Unstuffed → Unstuffed
  | .ok p => .ok (d :: p)
  | .malformed k => .malformed k

/-- The byte after an ESC is one that STUFF writes there (R97). -/
def goodEscape (c : Config) (e : Byte) : Bool := e == c.flag ^^^ c.mask || e == c.esc ^^^ c.mask

/-- `UNSTUFF(body)` (R96): the first ill-formed place in scan order decides. -/
def unstuff (c : Config) : List Byte → Unstuffed
  | [] => .ok []
  | [b] =>
    if b = c.flag then .malformed .embeddedDelimiter
    else if b = c.esc then .malformed .danglingEscape
    else .ok [b]
  | b :: e :: rest =>
    if b = c.flag then .malformed .embeddedDelimiter
    else if b = c.esc then
      if e = c.flag then .malformed .embeddedDelimiter
      else if c.strictUnstuff && !goodEscape c e then .malformed .badEscape
      else consByte (e ^^^ c.mask) (unstuff c rest)
    else consByte b (unstuff c (e :: rest))

/-- Every leading byte equal to FLAG removed. -/
def dropFlags (c : Config) (w : List Byte) : List Byte := w.dropWhile (· == c.flag)

/-- `trim(w)`: every leading and every trailing FLAG removed (R99). -/
def trim (c : Config) (w : List Byte) : List Byte := (dropFlags c (dropFlags c w).reverse).reverse

/-- `DECODE(w) = UNSTUFF(trim(w))` (R99). -/
def frameDecode (c : Config) (w : List Byte) : Unstuffed := unstuff c (trim c w)

end Sys2Proof.Machine
end

