-- ==== Sys2Proof/Machine/State.lean ====
section
/-! DEFINITION. The state of the block and of the host around it as plain data, its reset value, and the reasons a
step can stop. -/

namespace Sys2Proof.Machine

/-- `RX_STATE` (R21, R24, R27); FrameComplete and FrameError are no stored values (R26). -/
inductive RxState where
  | awaitingDelimiter | accumulatingFrame | discarding
deriving DecidableEq, Repr

/-- The events of the block (R37). -/
inductive Event where
  | ready
  | odometry (leftTicks rightTicks : Int) (headingRaw : Nat)
  | targetReached
  | unknown (frame : List Byte)
  | malformed (cause : Cause)
deriving DecidableEq, Repr

/-- The three conditions of a completion handle (R191). -/
inductive HandleCond where
  | unresolved | resolved | cancelled
deriving DecidableEq, Repr

/-- The latest INIT call: none yet, waiting for the first Ready, resolved `ready` or `failure` (R200). Only the latest is
kept (DESIGN CHOICE, log 18). -/
inductive InitCall where
  | none | waiting | ready | failure
deriving DecidableEq, Repr

/-- What the transport reports past the block (R215); `info` is whatever the transport gives (R211; log 22). -/
inductive TransportNote where
  | error (info : Nat) | close | disconnect
deriving DecidableEq, Repr

/-- What the host's notification channel publishes (R202). -/
inductive Notification where
  | odometry (leftTicks rightTicks : Int) (headingRaw : Nat)
  | targetReached
  | transport (n : TransportNote)
deriving DecidableEq, Repr

/-- What the last operation with a return value returned (the model's own; DESIGN CHOICE, log 4). -/
inductive Result where
  /-- No operation has returned a value yet. -/
  | nothing
  /-- A byte sequence: STUFF, ENCODE, CMDENCODE, a command's decoded frame. -/
  | bytes (bs : List Byte)
  /-- `Ok(payload)` or `Malformed(cause)`: UNSTUFF, DECODE. -/
  | unstuffed (u : Unstuffed)
  /-- A signed tick count: TICKS. -/
  | ticks (v : Int)
  /-- An unsigned fixed-point count: PARSEFIXED. -/
  | fixed (v : Nat)
  /-- The raw heading and the degrees it means: HEADING. -/
  | heading (headingRaw : Nat) (degrees : Rat)
  /-- The triple of TELEMETRY. -/
  | telemetry (leftTicks rightTicks : Int) (headingRaw : Nat)
  /-- An ISSUE that waits for TargetReached: its handle (R192). -/
  | handle (h : Nat)
  /-- An ISSUE that resolved at once, with nothing or with an immediate result (R192, R194). -/
  | immediate (returnsNothing : Bool)
  /-- A STOPCMD that resolves after a delay (R196). -/
  | resolvesAfter (delay : Nat)
  /-- A call whose write failed (93 U14). -/
  | writeFailed (o : CallOutcome)
  /-- An INIT that has begun (R200). -/
  | initStarted
  /-- `InitError::AlreadyOpen` (R201). -/
  | alreadyOpen
deriving DecidableEq, Repr

/-- Who moves in a step, or what the outside does between two steps (the model's own; DESIGN CHOICE, log 3). -/
inductive Turn where
  /-- The transport hands over a chunk: its bytes wait on RX_STREAM (R40, R42). -/
  | deliver (chunk : List Byte)
  /-- The host puts a command on CMD_IN (R40). -/
  | submit (c : Cmd)
  /-- TX takes its next command (R20). -/
  | tx
  /-- RX takes its next byte (R20). -/
  | rx
  /-- The host reads the next event of EV_OUT (R43, R217). -/
  | host
  /-- The transport reports an error, a close or a disconnect (R215); a failed write puts such a turn here (log 13). -/
  | transport (n : TransportNote)
  /-- From now on the transport's writes fail, or succeed again (R41; log 13). -/
  | writes (fail : Bool)
  /-- Time passes (R196; log 16). -/
  | elapse (d : Nat)
  /-- An operation is called, and acts ahead of what waits on CMD_IN, RX_STREAM and EV_OUT (log
  24). -/
  | call (i : Instr)
  /-- Instructions are presented in the encoded form of a format (log 23, log 24). -/
  | encoded (f : Format) (bs : List Byte)
deriving DecidableEq, Repr

/-- The machine: the block's state (R21), the host's (R191, R200), the ports and histories (R33, R40), the parameters
(R8) and the model's own fields. -/
structure State where
  /-- The parameters (R8), written by nothing (R30, R242; log 1). -/
  cfg : Config
  /-- RX_STATE. -/
  rxState : RxState
  /-- RX_BUF, the raw bytes of the frame in progress. -/
  rxBuf : List Byte
  /-- CMD_IN, oldest first. -/
  cmdIn : List Cmd
  /-- Bytes delivered on RX_STREAM and not yet consumed. -/
  rxIn : List Byte
  /-- Events on EV_OUT that the host has not yet read. -/
  evUnread : List Event
  /-- TX_STREAM, all bytes emitted. -/
  txStream : List Byte
  /-- RX_STREAM, all bytes consumed. -/
  rxStream : List Byte
  /-- EV_OUT, all events emitted. -/
  evOut : List Event
  /-- PENDING, the number of the handle that waits. -/
  pending : Option Nat
  /-- The condition of each handle made so far, by its number. -/
  handles : List HandleCond
  /-- ACTIVE. -/
  active : Bool
  /-- The latest INIT call. -/
  initCall : InitCall
  /-- For each STOPCMD call the time left until it resolves. -/
  stopCalls : List Nat
  /-- What the notification channel has published. -/
  notifications : List Notification
  /-- The Unknown and Malformed events the host has logged. -/
  log : List Event
  /-- The transport's writes fail (the model's own). -/
  writeFails : Bool
  /-- The last returned value (the model's own). -/
  result : Result
  /-- The turns still to be taken (the model's own). -/
  agenda : List Turn
  /-- The counter at which free values are drawn (the model's own). -/
  freeCount : Nat
deriving DecidableEq, Repr

/-- The machine has no fault: no error is fatal to the block, which has no halted, faulted or locked-up state (R214).
Nothing raises one; safe. -/
inductive Fault : Type where
deriving DecidableEq, Repr

/-- The reasons a step is refused. -/
inductive Refusal where
  /-- Raised by an arm of exec whose instruction has no meaning yet; safe. -/
  | notModelled (mnemonic : String)
  /-- Raised by a step whose encoded item is no instruction, such as an unassigned opcode (R75, 93 U9); safe. -/
  | undecodable (e : DecodeError)
  /-- Raised by ISSUE of a completion-bearing command while PENDING is held (R198, 93 U3); safe. -/
  | overlappingCompletion
  /-- Raised by CLOSEFRAME called while RX_BUF is empty, against its precondition (R149; log 10); safe. -/
  | closeOfEmptyBuffer
deriving DecidableEq, Repr

/-- The machine right after reset (R35, R240): the receive state empty, nothing on any port, PENDING none, ACTIVE
false; the model's own fields and the host's records empty (DESIGN CHOICE, log 4, 13, 14, 16, 17, 18). -/
def State.reset : State where
  cfg := Config.machine
  rxState := .awaitingDelimiter
  rxBuf := []
  cmdIn := []
  rxIn := []
  evUnread := []
  txStream := []
  rxStream := []
  evOut := []
  pending := none
  handles := []
  active := false
  initCall := .none
  stopCalls := []
  notifications := []
  log := []
  writeFails := false
  result := .nothing
  agenda := []
  freeCount := 0

end Sys2Proof.Machine
end

