-- ==== Sys2Proof/Machine/Ops.lean ====
section
/-! DEFINITION. The named operations on the state: the accesses to RX_BUF (R12, R44), the appends to the ports (R41,
R43), and the raising of FrameError.Malformed (R220). -/

namespace Sys2Proof.Machine

/-- `MemRead(i, 1) = RX_BUF[i]`; nothing beyond the bytes held (R12). -/
def readBuf (s : State) (i : Nat) : Option Byte := s.rxBuf[i]?

/-- `RX_BUF <- RX_BUF ++ [b]` (R44). -/
def appendBuf (b : Byte) (s : State) : State := { s with rxBuf := s.rxBuf ++ [b] }

/-- `RX_BUF <- []` (R44). -/
def clearBuf (s : State) : State := { s with rxBuf := [] }

/-- `RX_STATE <- r`. -/
def setRxState (r : RxState) (s : State) : State := { s with rxState := r }

/-- `Emit(e)`: the event is appended to EV_OUT and waits there for the host (R43). -/
def emit (e : Event) (s : State) : State :=
  { s with evOut := s.evOut ++ [e], evUnread := s.evUnread ++ [e] }

/-- `TxEmit(bs)`: the bytes are appended to TX_STREAM in one step (R41). -/
def txEmit (bs : List Byte) (s : State) : State := { s with txStream := s.txStream ++ bs }

/-- The turns still to be taken, with the transport's report of a failed write among them: what the error carries and
its place in the order are free values, drawn at the counter (R41, R211, 93 U14, U17; log 13). -/
def agendaWithError (n : Nat) (ts : List Turn) : List Turn :=
  ts.take (Config.freeErrorPlace n) ++ .transport (.error (Config.freeErrorInfo n)) ::
    ts.drop (Config.freeErrorPlace n)

/-- A write was handed to the transport: if it fails the transport owes a `TransportError` notification, and nothing
of the block changes (R41, R192, R215; log 13). -/
def reportWrite (s : State) : State :=
  { s with agenda := if s.writeFails then agendaWithError s.freeCount s.agenda else s.agenda,
           freeCount := if s.writeFails then s.freeCount + 1 else s.freeCount }

/-- A byte of RX_STREAM is consumed, exactly once (R42, R47). -/
def consumeByte (b : Byte) (s : State) : State := { s with rxStream := s.rxStream ++ [b] }

/-- An operation returns a value (log 4). -/
def setResult (r : Result) (s : State) : State := { s with result := r }

/-- The notification channel publishes (R202). -/
def publish (n : Notification) (s : State) : State := { s with notifications := s.notifications ++ [n] }

/-- The host logs an Unknown or Malformed event (R217). -/
def logEvent (e : Event) (s : State) : State := { s with log := s.log ++ [e] }

/-- The state RX_STATE takes when a Malformed error is raised: the frame boundary, or Discarding after an overrun
(R212, R220). -/
def stateAfterMalformed : Cause → RxState
  | .danglingEscape => .awaitingDelimiter
  | .badEscape => .awaitingDelimiter
  | .embeddedDelimiter => .awaitingDelimiter
  | .overrun => .discarding

/-- `raise FrameError.Malformed(k)` in the receive agent (R220): the bytes held are dropped, RX_STATE moves to the
boundary or to Discarding, the event is emitted, nothing is saved. There is no return operation (R221). -/
def raiseMalformed (k : Cause) (s : State) : State :=
  emit (.malformed k) (setRxState (stateAfterMalformed k) (clearBuf s))

end Sys2Proof.Machine
end

