-- ==== Sys2Proof/Machine/Reset.lean ====
section
/-! DEFINITION. RESET (rules R240 to R243). -/

namespace Sys2Proof.Machine

/-- Nothing is pending on any port (R240): waiting commands, waiting bytes and unread events are dropped; the
histories stay (R242 leaves that to the model; DESIGN CHOICE, log 11). -/
def clearPorts (s : State) : State := { s with cmdIn := [], rxIn := [], evUnread := [] }

/-- `RESET`: RX_STATE and RX_BUF empty, ports empty, parameters untouched (R240, R242). -/
def resetBlock (s : State) : State := clearPorts (setRxState .awaitingDelimiter (clearBuf s))

/-- RESET (R240). It may be called at any time, where R241 has a reset at power-on and at INIT only (DESIGN CHOICE, log
24). -/
def execReset (s : State) : Host.Outcome State Fault Refusal := .next (resetBlock s)

end Sys2Proof.Machine
end

