-- ==== Sys2Proof/Machine/Transmit.lean ====
section
/-! DEFINITION. The command encoder and the transmit agent: the CMD rows, CMDENCODE and TXCMD (rules R110 to R126). A
CMD row is the pure encoder function of its command, which returns the decoded frame and has no side effect (R110;
DEDUCED, log 5); TXCMD sends it. -/

namespace Sys2Proof.Machine

/-- The decoded frame of a command is returned (R110, R117). -/
def returnFrame (cmd : Cmd) (s : State) : State := setResult (.bytes (cmdEncode s.cfg cmd)) s

/-- `TXCMD(cmd)`: `TxEmit(ENCODE(CMDENCODE(cmd)))` (R118); a write that fails is reported by the transport (R41). -/
def txCmd (cmd : Cmd) (s : State) : State := reportWrite (txEmit (frameEncode s.cfg (cmdEncode s.cfg cmd)) s)

/-- forward (R119). -/
def execForward (speed distance : Int) (s : State) : Host.Outcome State Fault Refusal :=
  .next (returnFrame (.motion (.forward speed distance)) s)

/-- reverse (R120). -/
def execReverse (speed distance : Int) (s : State) : Host.Outcome State Fault Refusal :=
  .next (returnFrame (.motion (.reverse speed distance)) s)

/-- rotate (R121). -/
def execRotate (speed angle : Int) (s : State) : Host.Outcome State Fault Refusal :=
  .next (returnFrame (.motion (.rotate speed angle)) s)

/-- turn (R122). -/
def execTurn (speed angle radius : Int) (s : State) : Host.Outcome State Fault Refusal :=
  .next (returnFrame (.motion (.turn speed angle radius)) s)

/-- driveRaw (R123). -/
def execDriveRaw (leftSpeed rightSpeed : Int) (s : State) : Host.Outcome State Fault Refusal :=
  .next (returnFrame (.motion (.driveRaw leftSpeed rightSpeed)) s)

/-- stop (R124). -/
def execStop (hard : ArgValue) (s : State) : Host.Outcome State Fault Refusal :=
  .next (returnFrame (.stop hard) s)

/-- keepHeading (R125). -/
def execKeepHeading (speed heading distance : Int) (s : State) : Host.Outcome State Fault Refusal :=
  .next (returnFrame (.motion (.keepHeading speed heading distance)) s)

/-- resetOrientation (R126). -/
def execResetOrientation (s : State) : Host.Outcome State Fault Refusal :=
  .next (returnFrame (.motion .resetOrientation) s)

/-- CMDENCODE (R117). -/
def execCmdencode (c : Cmd) (s : State) : Host.Outcome State Fault Refusal := .next (returnFrame c s)

/-- TXCMD (R118). A command called for is sent at once, ahead of commands that wait on CMD_IN (DESIGN CHOICE, log 24). -/
def execTxcmd (c : Cmd) (s : State) : Host.Outcome State Fault Refusal := .next (txCmd c s)

end Sys2Proof.Machine
end

