-- ==== Sys2Proof/Machine/Correlator.lean ====
section
/-! DEFINITION. The host side: the correlator's operations ISSUE, ONTARGETREACHED, STOPCMD, CANCEL, INIT, the routing
of events, and the transport's notifications (rules R190 to R203, R215, R217). -/

namespace Sys2Proof.Machine

/-- A completion-bearing command: its distance or angle argument is not 0, before saturation (R193). -/
def bearing : Motion → Bool
  | .forward _ distance => distance != 0
  | .reverse _ distance => distance != 0
  | .rotate _ angle => angle != 0
  | .turn _ angle _ => angle != 0
  | .driveRaw _ _ => false
  | .keepHeading _ _ distance => distance != 0
  | .resetOrientation => false

/-- A fresh unresolved handle becomes PENDING (R192; handles are numbered by their place, DESIGN CHOICE, log 17). -/
def openHandle (s : State) : State :=
  { s with pending := some s.handles.length, handles := s.handles ++ [.unresolved] }

/-- The pending handle, if there is one, takes a condition and PENDING becomes none (R195, R197); with nothing pending
nothing changes (log 20). -/
def closeHandle (k : HandleCond) (s : State) : State :=
  match s.pending with
  | some h => { s with pending := none, handles := s.handles.set h k }
  | none => s

/-- A call that has written returns a value; if the write failed the value is free (93 U14; log 13). -/
def returnAfterWrite (r : Result) (s : State) : State :=
  if s.writeFails then
    { s with result := .writeFailed (Config.freeCallOutcome s.freeCount), freeCount := s.freeCount + 1 }
  else setResult r s

/-- `ISSUE(m)` once it is allowed: the frame is written, and a failed write reported (`txCmd`); a bearing command gets
a handle, any other resolves at once (R192). The command does not pass through CMD_IN: its frame goes out ahead of
commands that wait there, also that of STOPCMD (DESIGN CHOICE, log 24). -/
def issueMotion (m : Motion) (s : State) : State :=
  if bearing m then returnAfterWrite (.handle s.handles.length) (openHandle (txCmd (.motion m) s))
  else returnAfterWrite (.immediate (Config.returnsNothing m.opcode)) (txCmd (.motion m) s)

/-- ISSUE (R192); a bearing command while PENDING is held is refused (R198, 93 U3). -/
def execIssue (m : Motion) (s : State) : Host.Outcome State Fault Refusal :=
  if bearing m && s.pending.isSome then .refused .overlappingCompletion else .next (issueMotion m s)

/-- The host's reaction to a TargetReached event (R195). -/
def onTargetReached (s : State) : State := publish .targetReached (closeHandle .resolved s)

/-- ONTARGETREACHED (R195). A call of it needs no event on EV_OUT: it runs ahead of the unread events and consumes none
(DESIGN CHOICE, log 24); the host's turn runs it for the event it reads. -/
def execOntargetreached (s : State) : Host.Outcome State Fault Refusal := .next (onTargetReached s)

/-- The delay after which a stop call resolves (R196). -/
def stopDelay (c : Config) (hard : ArgValue) : Nat := if truth hard then 0 else c.settleDelay

/-- A stop call waits for its delay (R196; log 16). -/
def startStopCall (d : Nat) (s : State) : State := { s with stopCalls := s.stopCalls ++ [d] }

/-- STOPCMD: written at once, ahead of commands that wait on CMD_IN (log 24), resolves after the delay, PENDING unused
(R196). -/
def execStopcmd (hard : ArgValue) (s : State) : Host.Outcome State Fault Refusal :=
  .next (returnAfterWrite (.resolvesAfter (stopDelay s.cfg hard))
    (startStopCall (stopDelay s.cfg hard) (txCmd (.stop hard) s)))

/-- Time passes for every stop call; one with no time left is resolved (R196; log 16). -/
def elapse (d : Nat) (s : State) : State := { s with stopCalls := s.stopCalls.map (· - d) }

/-- CANCEL: the pending handle is cancelled; nothing is sent (R197). -/
def execCancel (s : State) : Host.Outcome State Fault Refusal := .next (closeHandle .cancelled s)

/-- The transport's `flush` discards what the transport still holds (R244). -/
def flush (s : State) : State := { s with rxIn := [] }

/-- The connection is active and an INIT call waits for the first Ready (R200). There is one record of an INIT call: an
earlier call that still waits, on a connection that a close or disconnect has ended, is forgotten and never resolves
(DESIGN CHOICE, log 18). -/
def beginInit (s : State) : State := { s with active := true, initCall := .waiting, result := .initStarted }

/-- INIT: open, flush, reset the block, ACTIVE true (R200, R241); on an active connection it is rejected and changes
nothing (R201). -/
def execInit (s : State) : Host.Outcome State Fault Refusal :=
  if s.active then .next (setResult .alreadyOpen s) else .next (beginInit (resetBlock (flush s)))

/-- A waiting INIT call ends (R200). -/
def endInit (r : InitCall) (s : State) : State :=
  if s.initCall = .waiting then { s with initCall := r } else s

/-- ACTIVE after a close or disconnect is a free value, false where it was false (93 U16; log 14). -/
def dropConnection (s : State) : State :=
  { s with active := s.active && Config.freeStaysActive s.freeCount, freeCount := s.freeCount + 1 }

/-- A transport notification goes to the channel past the block (R215); an error ends a waiting INIT (R200). PENDING
stays as it is (93 U15; log 19). -/
def transportNote (n : TransportNote) (s : State) : State :=
  match n with
  | .error _ => endInit .failure (publish (.transport n) s)
  | .close => dropConnection (publish (.transport n) s)
  | .disconnect => dropConnection (publish (.transport n) s)

/-- The host takes an event that is not TargetReached (R200, R217). -/
def routeEvent (e : Event) (s : State) : State :=
  match e with
  | .ready => endInit .ready s
  | .odometry l r h => publish (.odometry l r h) s
  | .targetReached => onTargetReached s
  | .unknown _ => logEvent e s
  | .malformed _ => logEvent e s

end Sys2Proof.Machine
end

