-- ==== Sys2Proof/Machine/Telemetry.lean ====
section
/-! DEFINITION. The telemetry decoder: TICKS, PARSEFIXED, HEADING, TELEMETRY as pure functions (rules R171 to R177),
the digit strings of R13 among them. -/

namespace Sys2Proof.Machine

/-- A binary digit of a digit string (R13). -/
inductive Digit where
  | zero | one
deriving DecidableEq, Repr

/-- The number a digit denotes. -/
def digitVal : Digit → Nat
  | .zero => 0
  | .one => 1

/-- The digit of bit `i` of a byte. -/
def digitAt (b : Byte) (i : Nat) : Digit := if b.getLsbD i then .one else .zero

/-- `binstr8(b)`: eight digits, most significant first (R13). -/
def binstr8 (b : Byte) : List Digit := [7, 6, 5, 4, 3, 2, 1, 0].map (digitAt b)

/-- `binstr(b)`: without leading zeros, and `"0"` for 0 (R13). -/
def binstr (b : Byte) : List Digit :=
  match (binstr8 b).dropWhile (· == .zero) with
  | [] => [.zero]
  | d :: ds => d :: ds

/-- `parse2(s)`: the integer a digit string denotes in base 2, most significant digit first (R13). -/
def parse2 (s : List Digit) : Nat := s.foldl (fun acc d => 2 * acc + digitVal d) 0

/-- `PARSEFIXED(msb, lsb)`: the literal string algorithm (R174). -/
def parseFixed (c : Config) (msb lsb : Byte) : Nat :=
  match c.headingMode with
  | .padded8 => parse2 (binstr8 msb ++ binstr8 lsb)
  | .unpadded => parse2 (binstr msb ++ binstr lsb)

/-- `mult(d)`: -1 for 0, else the byte's unsigned value (R171). -/
def mult (d : Byte) : Int := if d = 0 then -1 else d.toNat

/-- `TICKS(d, n) = n * mult(d)` (R172). -/
def ticks (d n : Byte) : Int := n.toNat * mult d

/-- The heading in degrees, `headingRaw / 100`, exact (R176). -/
def degrees (headingRaw : Nat) : Rat := mkRat headingRaw 100

end Sys2Proof.Machine
end

