-- ==== Sys2Proof/Machine/Functions.lean ====
section
/-! DEFINITION. The meanings of the rows that are pure functions of their operands: the codec's four (R90 to R99) and
the telemetry decoder's four (R170 to R177). Each returns its value and writes nothing else. -/

namespace Sys2Proof.Machine

/-- STUFF (R92). -/
def execStuff (p : List Byte) (s : State) : Host.Outcome State Fault Refusal :=
  .next (setResult (.bytes (stuff s.cfg p)) s)

/-- ENCODE (R93). -/
def execEncode (p : List Byte) (s : State) : Host.Outcome State Fault Refusal :=
  .next (setResult (.bytes (frameEncode s.cfg p)) s)

/-- UNSTUFF (R96). -/
def execUnstuff (body : List Byte) (s : State) : Host.Outcome State Fault Refusal :=
  .next (setResult (.unstuffed (unstuff s.cfg body)) s)

/-- DECODE (R99). -/
def execDecode (w : List Byte) (s : State) : Host.Outcome State Fault Refusal :=
  .next (setResult (.unstuffed (frameDecode s.cfg w)) s)

/-- TICKS (R172). -/
def execTicks (d n : Byte) (s : State) : Host.Outcome State Fault Refusal :=
  .next (setResult (.ticks (ticks d n)) s)

/-- PARSEFIXED (R174). -/
def execParsefixed (msb lsb : Byte) (s : State) : Host.Outcome State Fault Refusal :=
  .next (setResult (.fixed (parseFixed s.cfg msb lsb)) s)

/-- HEADING (R176). -/
def execHeading (msb lsb : Byte) (s : State) : Host.Outcome State Fault Refusal :=
  .next (setResult (.heading (parseFixed s.cfg msb lsb) (degrees (parseFixed s.cfg msb lsb))) s)

/-- TELEMETRY on a payload of exactly six bytes (R177). -/
def execTelemetry (q0 q1 q2 q3 q4 q5 : Byte) (s : State) : Host.Outcome State Fault Refusal :=
  .next (setResult (.telemetry (ticks q0 q1) (ticks q2 q3) (parseFixed s.cfg q4 q5)) s)

end Sys2Proof.Machine
end

