-- ==== Sys2Proof/Machine/Receive.lean ====
section
/-! DEFINITION. The receive agent: CLASSIFY, CLOSEFRAME, RXBYTE, RXCHUNK (rules R140 to R155), and the meanings of
their rows. -/

namespace Sys2Proof.Machine

/-- The event a class of frame emits (R150, R153 to R155). -/
def classEvent (c : Config) (f : List Byte) : FrameClass → Event
  | .ready => .ready
  | .odometry ld ln rd rn hm hl => .odometry (ticks ld ln) (ticks rd rn) (parseFixed c hm hl)
  | .targetReached => .targetReached
  | .unknown => .unknown f

/-- The event of `CLASSIFY(f)` (R150). -/
def frameEvent (c : Config) (f : List Byte) : Event := classEvent c f (frameClass c f)

/-- `CLASSIFY(f)`: emits exactly one event (R150). -/
def classify (f : List Byte) (s : State) : State := emit (frameEvent s.cfg f) s

/-- What CLOSEFRAME does with the outcome of UNSTUFF (R149). -/
def closeOutcome (u : Unstuffed) (s : State) : State :=
  match u with
  | .ok f => classify f s
  | .malformed k => raiseMalformed k s

/-- `CLOSEFRAME()`: the buffer is emptied before anything else and whatever the outcome (R149). -/
def closeFrame (s : State) : State :=
  closeOutcome (unstuff s.cfg s.rxBuf) (setRxState .awaitingDelimiter (clearBuf s))

/-- The buffer is finite and full (R143, R146). -/
def bufferFull (s : State) : Bool := s.cfg.maxBody == some s.rxBuf.length

/-- The body of RXBYTE on a state whose byte is already consumed (R142, R143). -/
def rxTransition (b : Byte) (s : State) : State :=
  match s.rxState with
  | .discarding => if b = s.cfg.flag then setRxState .awaitingDelimiter s else s
  | .awaitingDelimiter | .accumulatingFrame =>
    if b = s.cfg.flag then (if s.rxBuf = [] then s else closeFrame s)
    else if bufferFull s then raiseMalformed .overrun s
    else setRxState .accumulatingFrame (appendBuf b s)

/-- `RXBYTE(b)` (R143). -/
def rxByte (b : Byte) (s : State) : State := rxTransition b (consumeByte b s)

/-- `RXCHUNK(c)`: RXBYTE on each byte in order (R148). -/
def rxChunk (c : List Byte) (s : State) : State := c.foldl (fun s b => rxByte b s) s

/-- A frame arrives: its wire form, body and delimiter, is received byte by byte (R61, R93, R148). -/
def receiveFrame (f : List Byte) (s : State) : State := rxChunk (frameEncode s.cfg f) s

/-- RXBYTE (R143). A byte given by a call is consumed at once, ahead of bytes that wait on RX_STREAM (DESIGN CHOICE,
log 24). -/
def execRxbyte (b : Byte) (s : State) : Host.Outcome State Fault Refusal := .next (rxByte b s)

/-- RXCHUNK (R148). The whole chunk is one step of the model, where the spec's receive step is one byte (DESIGN
CHOICE, log 25). -/
def execRxchunk (c : List Byte) (s : State) : Host.Outcome State Fault Refusal := .next (rxChunk c s)

/-- CLOSEFRAME (R149); called against its precondition it is refused (DESIGN CHOICE, log 10). A call of it needs no FLAG
and consumes no byte of RX_STREAM (DESIGN CHOICE, log 24). -/
def execCloseframe (s : State) : Host.Outcome State Fault Refusal :=
  if s.rxBuf = [] then .refused .closeOfEmptyBuffer else .next (closeFrame s)

/-- CLASSIFY (R150). A call of it needs no frame closed by the receive agent (DESIGN CHOICE, log 24). -/
def execClassify (first : Byte) (rest : List Byte) (s : State) : Host.Outcome State Fault Refusal :=
  .next (classify (first :: rest) s)

end Sys2Proof.Machine
end

