-- ==== Sys2Proof/Machine/Responses.lean ====
section
/-! DEFINITION. The RSP rows: the receive agent takes the wire bytes of an inbound frame of the row's class, one after the
other (rules R61, R66 to R68, R148), so that its event is caused by bytes of RX_STREAM (R216): between frames the
delimiter closes the frame and CLASSIFY emits its event (R149 to R155); inside a frame in progress the bytes are folded
into that frame (R251), and while discarding they are thrown away (R147). That a row is such an arrival is DEDUCED, and
that it is one step of the model is a DESIGN CHOICE (log 7). -/

namespace Sys2Proof.Machine

/-- ready: the frame `[RESP_MARKER, TAG_READY]` arrives (R68, R154). -/
def execReady (s : State) : Host.Outcome State Fault Refusal :=
  .next (receiveFrame [s.cfg.respMarker, s.cfg.tagReady] s)

/-- odometry: the frame of R67 with its six payload bytes arrives (R153). -/
def execOdometry (leftDir leftDelta rightDir rightDelta headingMsb headingLsb : Byte) (s : State) :
    Host.Outcome State Fault Refusal :=
  .next (receiveFrame [s.cfg.respMarker, s.cfg.tagOdometry, leftDir, leftDelta, rightDir, rightDelta, headingMsb,
    headingLsb] s)

/-- targetReached: the frame `[RESP_MARKER, TAG_TARGET_REACHED]` arrives (R68, R154). -/
def execTargetReached (s : State) : Host.Outcome State Fault Refusal :=
  .next (receiveFrame [s.cfg.respMarker, s.cfg.tagTargetReached] s)

/-- unknown: any other frame arrives (R155). -/
def execUnknown (first : Byte) (rest : List Byte) (s : State) : Host.Outcome State Fault Refusal :=
  .next (receiveFrame (first :: rest) s)

end Sys2Proof.Machine
end

