-- ==== Sys2Proof/Machine/Wire.lean ====
section
/-! DEFINITION. The WIRE rows: the receive agent takes the bytes of a symbol one after the other (rules R61, R62, R74,
R97, R98, R144). ESC is interpreted only at the close (R144), so an ill-formed symbol is reported by the delimiter
that closes its frame. A two-byte symbol is one step of the model (DESIGN CHOICE, log 6), and its
bytes are consumed ahead of bytes that wait on RX_STREAM (DESIGN CHOICE, log 24). -/

namespace Sys2Proof.Machine

/-- DELIMITER: one FLAG (R61, R145). -/
def execDelimiter (s : State) : Host.Outcome State Fault Refusal := .next (rxByte s.cfg.flag s)

/-- ESCAPED_FLAG: ESC and FLAG xor MASK (R62). -/
def execEscapedFlag (s : State) : Host.Outcome State Fault Refusal :=
  .next (rxChunk [s.cfg.esc, s.cfg.flag ^^^ s.cfg.mask] s)

/-- ESCAPED_ESC: ESC and ESC xor MASK (R62). -/
def execEscapedEsc (s : State) : Host.Outcome State Fault Refusal :=
  .next (rxChunk [s.cfg.esc, s.cfg.esc ^^^ s.cfg.mask] s)

/-- LITERAL: the byte itself (R62). -/
def execLiteral (data : Byte) (s : State) : Host.Outcome State Fault Refusal := .next (rxByte data s)

/-- BAD_ESCAPE: ESC and a byte that STUFF never writes there (R97). -/
def execBadEscape (data : Byte) (s : State) : Host.Outcome State Fault Refusal :=
  .next (rxChunk [s.cfg.esc, data] s)

/-- DANGLING_ESCAPE: on the wire, ESC and FLAG (R98). -/
def execDanglingEscape (s : State) : Host.Outcome State Fault Refusal :=
  .next (rxChunk [s.cfg.esc, s.cfg.flag] s)

end Sys2Proof.Machine
end

