-- ==== Sys2Proof/Machine/Dispatch.lean ====
section
/-! DEFINITION. The meaning of each instruction, one arm per row of spec/opcode_table.json. -/

namespace Sys2Proof.Machine

/-- One instruction's effect. -/
def exec (i : Instr) (s : State) : Host.Outcome State Fault Refusal :=
  match i with
  | .forward speed distance => Sys2Proof.Machine.execForward speed distance s
  | .reverse speed distance => Sys2Proof.Machine.execReverse speed distance s
  | .rotate speed angle => Sys2Proof.Machine.execRotate speed angle s
  | .turn speed angle radius => Sys2Proof.Machine.execTurn speed angle radius s
  | .driveRaw leftSpeed rightSpeed => Sys2Proof.Machine.execDriveRaw leftSpeed rightSpeed s
  | .stop hard => Sys2Proof.Machine.execStop hard s
  | .keepHeading speed heading distance => Sys2Proof.Machine.execKeepHeading speed heading distance s
  | .resetOrientation => Sys2Proof.Machine.execResetOrientation s
  | .ready => Sys2Proof.Machine.execReady s
  | .odometry leftDir leftDelta rightDir rightDelta headingMsb headingLsb => Sys2Proof.Machine.execOdometry leftDir leftDelta rightDir rightDelta headingMsb headingLsb s
  | .targetReached => Sys2Proof.Machine.execTargetReached s
  | .unknown first rest => Sys2Proof.Machine.execUnknown first rest s
  | .delimiter => Sys2Proof.Machine.execDelimiter s
  | .escapedFlag => Sys2Proof.Machine.execEscapedFlag s
  | .escapedEsc => Sys2Proof.Machine.execEscapedEsc s
  | .literal data => Sys2Proof.Machine.execLiteral data s
  | .badEscape data => Sys2Proof.Machine.execBadEscape data s
  | .danglingEscape => Sys2Proof.Machine.execDanglingEscape s
  | .stuff p => Sys2Proof.Machine.execStuff p s
  | .encode p => Sys2Proof.Machine.execEncode p s
  | .unstuff body => Sys2Proof.Machine.execUnstuff body s
  | .decode w => Sys2Proof.Machine.execDecode w s
  | .cmdencode c => Sys2Proof.Machine.execCmdencode c s
  | .txcmd c => Sys2Proof.Machine.execTxcmd c s
  | .rxbyte b => Sys2Proof.Machine.execRxbyte b s
  | .rxchunk c => Sys2Proof.Machine.execRxchunk c s
  | .closeframe => Sys2Proof.Machine.execCloseframe s
  | .classify first rest => Sys2Proof.Machine.execClassify first rest s
  | .ticks d n => Sys2Proof.Machine.execTicks d n s
  | .parsefixed msb lsb => Sys2Proof.Machine.execParsefixed msb lsb s
  | .heading msb lsb => Sys2Proof.Machine.execHeading msb lsb s
  | .telemetry q0 q1 q2 q3 q4 q5 => Sys2Proof.Machine.execTelemetry q0 q1 q2 q3 q4 q5 s
  | .reset => Sys2Proof.Machine.execReset s
  | .issue m => Sys2Proof.Machine.execIssue m s
  | .ontargetreached => Sys2Proof.Machine.execOntargetreached s
  | .stopcmd hard => Sys2Proof.Machine.execStopcmd hard s
  | .cancel => Sys2Proof.Machine.execCancel s
  | .init => Sys2Proof.Machine.execInit s

end Sys2Proof.Machine
end

