-- ==== Sys2Proof/Machine/Fetch.lean ====
section
/-! DEFINITION. Taking the next turn of the agenda: which instruction runs, in which state (rules R20, R42, R50,
R217; log 3, log 23). -/

namespace Sys2Proof.Machine

/-- What a turn comes to: an instruction to run, a state reached without one, or a refusal. -/
inductive Fetched where
  | run (i : Instr) (s : State)
  | done (s : State)
  | stop (r : Refusal)
deriving DecidableEq, Repr

/-- TX takes the oldest command of CMD_IN; with none waiting it does nothing (R20, R50, R240). -/
def fetchTx (s : State) : Fetched :=
  match s.cmdIn with
  | [] => .done s
  | c :: cs => .run (.txcmd c) { s with cmdIn := cs }

/-- RX takes the oldest byte of RX_STREAM; with none waiting it does nothing (R20, R42, R240). -/
def fetchRx (s : State) : Fetched :=
  match s.rxIn with
  | [] => .done s
  | b :: bs => .run (.rxbyte b) { s with rxIn := bs }

/-- The host reads the oldest unread event; a TargetReached runs ONTARGETREACHED (R43, R195, R217). -/
def fetchEvent (s : State) : Fetched :=
  match s.evUnread with
  | [] => .done s
  | .targetReached :: es => .run .ontargetreached { s with evUnread := es }
  | e :: es => .done (routeEvent e { s with evUnread := es })

/-- What is left of an encoded item goes back to the head of the agenda (log 23). -/
def keepRest (f : Format) (left : List Byte) (s : State) : State :=
  if left = [] then s else { s with agenda := .encoded f left :: s.agenda }

/-- The first instruction of an encoded item is decoded and runs; an item without bytes is skipped (log 23). -/
def fetchEncoded (f : Format) (bs : List Byte) (s : State) : Fetched :=
  if bs = [] then .done s
  else
    match decode s.cfg f bs with
    | .ok (i, left) => .run i (keepRest f left s)
    | .error e => .stop (.undecodable e)

/-- One turn, on a state from whose agenda it is already taken. A called operation or an encoded item acts at once:
bytes it receives are consumed ahead of those that wait on RX_STREAM, and a command it sends goes ahead of those that
wait on CMD_IN; a called operation needs no event or byte that the rules have it react to (DESIGN CHOICE, log 24). -/
def fetchTurn (t : Turn) (s : State) : Fetched :=
  match t with
  | .deliver chunk => .done { s with rxIn := s.rxIn ++ chunk }
  | .submit c => .done { s with cmdIn := s.cmdIn ++ [c] }
  | .tx => fetchTx s
  | .rx => fetchRx s
  | .host => fetchEvent s
  | .transport n => .done (transportNote n s)
  | .writes fail => .done { s with writeFails := fail }
  | .elapse d => .done (elapse d s)
  | .call i => .run i s
  | .encoded f bs => fetchEncoded f bs s

/-- The next turn of the agenda; with none left the machine waits (R240). -/
def fetchNext (s : State) : Fetched :=
  match s.agenda with
  | [] => .done s
  | t :: ts => fetchTurn t { s with agenda := ts }

/-- A table pattern put where the next step fetches: an encoded item at the head of the agenda. -/
def placeTableWord (nbits w : Nat) (s : State) : State :=
  { s with agenda := .encoded (tableFormat s.cfg nbits (tableBytes nbits w)) (tableBytes nbits w) :: s.agenda }

end Sys2Proof.Machine
end

