-- ==== Sys2Proof/Machine/Step.lean ====
section
/-! DEFINITION. One step of the machine: the next turn of the agenda (log 3). -/

namespace Sys2Proof.Machine

/-- One step: the turn is taken, and the instruction it comes to, if any, runs. -/
def step (s : State) : Host.Outcome State Fault Refusal :=
  match fetchNext s with
  | .run i t => exec i t
  | .done t => .next t
  | .stop r => .refused r

/-- A state whose next step runs the instruction of a table pattern. -/
def State.withFetchWord (s : State) (nbits w : Nat) : State := placeTableWord nbits w s

end Sys2Proof.Machine
end

