-- ==== Sys2Proof/Safety.lean ====
section
/-! DEFINITION. What counts as a safe state: the invariants of the receive agent, of the events and of the
correlator, in the terms the statements use. -/

namespace Sys2Proof.Machine

/-- A body of `n` bytes is within MAX_BODY (R21, R146). -/
def withinLimit (c : Config) (n : Nat) : Bool :=
  match c.maxBody with
  | some m => decide (n ≤ m)
  | none => true

/-- The invariant of the receive agent: RX_BUF holds no FLAG (R25) and at most MAX_BODY bytes (R21); it is empty in
AwaitingDelimiter and not in AccumulatingFrame (R24); Discarding holds nothing and exists only for a finite buffer
(R27). -/
abbrev ReceiveInv (s : State) : Prop :=
  (∀ b ∈ s.rxBuf, b ≠ s.cfg.flag) ∧ withinLimit s.cfg s.rxBuf.length = true ∧
    (s.rxState = .awaitingDelimiter → s.rxBuf = []) ∧ (s.rxState = .accumulatingFrame → s.rxBuf ≠ []) ∧
    (s.rxState = .discarding → s.rxBuf = [] ∧ s.cfg.maxBody ≠ none)

/-- An event the block may emit: tick counts and heading in their ranges, an unknown frame not empty (R37), no
Malformed with the cause that only DECODE and UNSTUFF called by hand give (R98, R211). -/
def eventOk : Event → Bool
  | .ready => true
  | .odometry l r h => decide (-255 ≤ l ∧ l ≤ 65025 ∧ -255 ≤ r ∧ r ≤ 65025 ∧ h ≤ 65535)
  | .targetReached => true
  | .unknown f => f != []
  | .malformed k => k != .embeddedDelimiter

/-- The invariant of the events: every event emitted is one the block may emit, and those the host has still to read
are the latest ones, in order (R43, R50). -/
abbrev EventInv (s : State) : Prop :=
  (∀ e ∈ s.evOut, eventOk e = true) ∧ s.evUnread <:+ s.evOut

/-- PENDING holds an unresolved handle. -/
def pendingUnresolved (s : State) : Bool :=
  match s.pending with
  | some h => s.handles[h]? == some .unresolved
  | none => true

/-- The invariant of the correlator: a handle is unresolved exactly while it is the one in PENDING, so at most one is
(R191, R198). -/
abbrev CorrelatorInv (s : State) : Prop :=
  pendingUnresolved s = true ∧
    ∀ h < s.handles.length, s.handles[h]? = some .unresolved → s.pending = some h

/-- The receive agent is between frames (R24). -/
abbrev Idle (s : State) : Prop := s.rxState = .awaitingDelimiter ∧ s.rxBuf = []

/-- A safe state: all three invariants. -/
abbrev Safe (s : State) : Prop := ReceiveInv s ∧ EventInv s ∧ CorrelatorInv s

end Sys2Proof.Machine
end

