-- ==== Sys2Proof/WellFormed.lean ====
section
/-! DEFINITION. Which instructions their row's encoding can carry without loss. An ill-formed instruction still has
its meaning (a command saturates, rules R128 and R130); it only has no encoding that gives it back. -/

namespace Sys2Proof

/-- A slot carries its argument without loss: no saturation (R113, R115), a Boolean as a Boolean. -/
def slotCarries (cmd : Cmd) (sl : Slot) : Bool :=
  match sl.kind, Machine.argOf cmd sl.arg with
  | .u8, some (.int v) => decide (0 ≤ v ∧ v ≤ 255)
  | .sm, some (.int v) => decide (-255 ≤ v ∧ v ≤ 255)
  | .bool, some (.bool _) => true
  | _, _ => false

/-- Every argument of a command is carried, each by a slot that loses nothing. -/
def Cmd.carried (c : Config) (cmd : Cmd) : Bool :=
  (c.layout.slots cmd.opcode).all (slotCarries cmd) &&
    cmd.opcode.args.all fun a => ((c.layout.slots cmd.opcode).map (·.arg)).contains a

/-- An integer fits the signed two's-complement argument port of `w` bits (R112; log 12). -/
def fitsPort (w : Nat) (v : Int) : Bool := decide (-(2 ^ (w - 1) : Int) ≤ v ∧ v < 2 ^ (w - 1))

/-- Every numeric argument of a command fits a port of `ARG_W` bits (R112; log 12). -/
def Cmd.fitsPorts (c : Config) (cmd : Cmd) : Bool :=
  cmd.opcode.args.all fun a =>
    match Machine.argOf cmd a with
    | some (.int v) => fitsPort c.argW v
    | some (.bool _) => true
    | none => true

/-- The row's encoding carries the instruction: a command's arguments fit their slots; a literal is no reserved byte,
and the byte of a bad escape none that may follow ESC nor FLAG (R62, R97); an unknown frame is of no known class
(R155). -/
def Instr.wellFormed (c : Config) : Instr → Bool
  | .forward s d => (Cmd.motion (.forward s d)).carried c
  | .reverse s d => (Cmd.motion (.reverse s d)).carried c
  | .rotate s a => (Cmd.motion (.rotate s a)).carried c
  | .turn s a r => (Cmd.motion (.turn s a r)).carried c
  | .driveRaw l r => (Cmd.motion (.driveRaw l r)).carried c
  | .stop h => (Cmd.stop h).carried c
  | .keepHeading s h d => (Cmd.motion (.keepHeading s h d)).carried c
  | .resetOrientation => (Cmd.motion .resetOrientation).carried c
  | .ready => true
  | .odometry _ _ _ _ _ _ => true
  | .targetReached => true
  | .unknown f r => Machine.frameClass c (f :: r) == .unknown
  | .delimiter => true
  | .escapedFlag => true
  | .escapedEsc => true
  | .literal d => d != c.flag && d != c.esc
  | .badEscape e => e != c.flag && e != c.flag ^^^ c.mask && e != c.esc ^^^ c.mask
  | .danglingEscape => true
  | .stuff _ => true
  | .encode _ => true
  | .unstuff _ => true
  | .decode _ => true
  | .cmdencode _ => true
  | .txcmd _ => true
  | .rxbyte _ => true
  | .rxchunk _ => true
  | .closeframe => true
  | .classify _ _ => true
  | .ticks _ _ => true
  | .parsefixed _ _ => true
  | .heading _ _ => true
  | .telemetry _ _ _ _ _ _ => true
  | .reset => true
  | .issue _ => true
  | .ontargetreached => true
  | .stopcmd _ => true
  | .cancel => true
  | .init => true

end Sys2Proof
end

