-- ==== Sys2Proof/Certificates/Slice0/Obligations.lean ====
section
/-! DEFINITION. The statements about the model. "log n" is notes/assumptions/n.md. -/

open Sys2Proof Sys2Proof.Machine

/- Reset. -/

/-- R35: what reset leaves. -/
def Obligations.ResetStateIsEmpty : Prop :=
  State.reset.rxState = .awaitingDelimiter ∧ State.reset.rxBuf = [] ∧ State.reset.txStream = [] ∧
    State.reset.rxStream = [] ∧ State.reset.evOut = [] ∧ State.reset.pending = none ∧ State.reset.active = false

/-- The invariants hold at reset. -/
def Obligations.SafeAtReset : Prop := Safe State.reset

/-- RESET (R240, R242): the receive state is empty, nothing is pending on a port, the parameters and the host's state
are untouched. That the histories stay is the model's choice (log 11). -/
def Obligations.ResetOperationEmptiesBlock : Prop :=
  ∀ s : State, exec .reset s = .next
    { s with rxState := .awaitingDelimiter, rxBuf := [], cmdIn := [], rxIn := [], evUnread := [] }

/- The command encoder. -/

/-- Byte by byte, each command's decoded frame under the default LAYOUT, the bytes those of R71 and R110. That a CMD row
returns the frame and sends nothing is read from R110 (DEDUCED, log 5), and that the returned value is held in a field is
the model's choice (log 4). -/
def Obligations.CommandFramesByDefaultLayout : Prop :=
  ∀ s : State, s.cfg.layout = Layout.default →
    (∀ speed distance, exec (.forward speed distance) s = .next { s with
      result := .bytes [0xA3, 0x10, u8 speed, mag distance, dirByte s.cfg.signConv.forward distance] }) ∧
    (∀ speed distance, exec (.reverse speed distance) s = .next { s with
      result := .bytes [0xA3, 0x11, u8 speed, mag distance, dirByte s.cfg.signConv.reverse distance] }) ∧
    (∀ speed angle, exec (.rotate speed angle) s = .next { s with
      result := .bytes [0xA3, 0x12, u8 speed, mag angle, dirByte s.cfg.signConv.rotate angle] }) ∧
    (∀ speed angle radius, exec (.turn speed angle radius) s = .next { s with
      result := .bytes [0xA3, 0x13, u8 speed, mag angle, dirByte s.cfg.signConv.turn angle, u8 radius] }) ∧
    (∀ left right, exec (.driveRaw left right) s = .next { s with
      result := .bytes [0xA3, 0x14, u8 left, u8 right] }) ∧
    (∀ hard, exec (.stop hard) s = .next { s with
      result := .bytes [0xA3, 0x15, if truth hard then 1 else 0] }) ∧
    (∀ speed heading distance, exec (.keepHeading speed heading distance) s = .next { s with
      result := .bytes [0xA3, 0x16, u8 speed, mag heading, dirByte s.cfg.signConv.keepHeading heading, mag distance,
        dirByte s.cfg.signConv.keepHeading distance] }) ∧
    exec .resetOrientation s = .next { s with result := .bytes [0xA3, 0x20] }

/-- R113, R114, R115: the bytes of the three slot kinds, as numbers. -/
def Obligations.OperandBytes : Prop :=
  (∀ v : Int, ((mag v).toNat : Int) = min |v| 255) ∧
  (∀ (c : Config) (cmd : Cmd) (a : ArgName) (v : Int) (k : SignConv), argOf cmd a = some (.int v) →
    c.signConv.conv cmd.opcode = some k → slotBytes c cmd ⟨.sm, a⟩ = [mag v, dirByte k v]) ∧
  (∀ v : Int, (v < 0 → dirByte .neg1 v = 1 ∧ dirByte .neg0 v = 0) ∧
    (0 ≤ v → dirByte .neg1 v = 0 ∧ dirByte .neg0 v = 1)) ∧
  (∀ (t : SignTable) (op : Opcode), (t.conv op).isSome = true ↔
    op = .forward ∨ op = .reverse ∨ op = .rotate ∨ op = .turn ∨ op = .keepHeading) ∧
  (∀ v : Int, ((u8 v).toNat : Int) = min (max v 0) 255) ∧
  (∀ (c : Config) (cmd : Cmd) (a : ArgName) (v : Int), argOf cmd a = some (.int v) →
    slotBytes c cmd ⟨.u8, a⟩ = [u8 v]) ∧
  (∀ (c : Config) (h : ArgValue), slotBytes c (.stop h) ⟨.bool, .hard⟩ = [if truth h then 1 else 0]) ∧
  (∀ b : Bool, truth (.bool b) = b) ∧ ∀ v : Int, truth (.int v) = true ↔ v ≠ 0

/-- CMDENCODE under any layout, every CMD row an instance of it, and TXCMD, which appends the framed bytes in one step
(R117, R118) and, where the write fails, leaves the transport's report of it among the turns (R41; log 13). What a slot
that its command cannot fill contributes is the model's choice (log 21), and that a CMD row only returns its frame is
read from R110 (DEDUCED, log 5). -/
def Obligations.CommandEncodeAndTransmit : Prop :=
  ∀ (s : State) (cmd : Cmd), ∃ f,
    f = 0xA3 :: opcodeByte cmd.opcode :: (s.cfg.layout.slots cmd.opcode).flatMap (slotBytes s.cfg cmd) ∧
    exec (.cmdencode cmd) s = .next { s with result := .bytes f } ∧
    (∀ i : Instr, i.command = some cmd → exec i s = .next { s with result := .bytes f }) ∧
    (s.writeFails = false →
      exec (.txcmd cmd) s = .next { s with txStream := s.txStream ++ (stuff s.cfg f ++ [s.cfg.flag]) }) ∧
    (s.writeFails = true →
      exec (.txcmd cmd) s = .next { s with txStream := s.txStream ++ (stuff s.cfg f ++ [s.cfg.flag]),
                                           agenda := agendaWithError s.freeCount s.agenda,
                                           freeCount := s.freeCount + 1 })

/-- R127: the decoded length is fixed by the opcode, bytes 0 and 1 do not depend on the arguments, and changing the
sign of one non-zero SM argument changes exactly its direction byte. -/
def Obligations.SignFlipChangesOneByte : Prop :=
  ∀ c : Config, c.layout = Layout.default →
    (∀ cmd : Cmd, (cmdEncode c cmd).length =
        (match cmd.opcode with
          | .forward => 5 | .reverse => 5 | .rotate => 5 | .turn => 6 | .driveRaw => 4 | .stop => 3
          | .keepHeading => 7 | .resetOrientation => 2) ∧
      (cmdEncode c cmd).take 2 = [0xA3, opcodeByte cmd.opcode]) ∧
    (∀ (k : SignConv) (v : Int), dirByte k v = 0 ∨ dirByte k v = 1) ∧
    ∀ (a v x : Int) (i : Nat), v ≠ 0 →
      ((cmdEncode c (.motion (.forward a v)))[i]? ≠ (cmdEncode c (.motion (.forward a (-v))))[i]? ↔ i = 4) ∧
      ((cmdEncode c (.motion (.reverse a v)))[i]? ≠ (cmdEncode c (.motion (.reverse a (-v))))[i]? ↔ i = 4) ∧
      ((cmdEncode c (.motion (.rotate a v)))[i]? ≠ (cmdEncode c (.motion (.rotate a (-v))))[i]? ↔ i = 4) ∧
      ((cmdEncode c (.motion (.turn a v x)))[i]? ≠ (cmdEncode c (.motion (.turn a (-v) x)))[i]? ↔ i = 4) ∧
      ((cmdEncode c (.motion (.keepHeading a v x)))[i]? ≠ (cmdEncode c (.motion (.keepHeading a (-v) x)))[i]? ↔
        i = 4) ∧
      ((cmdEncode c (.motion (.keepHeading a x v)))[i]? ≠ (cmdEncode c (.motion (.keepHeading a x (-v))))[i]? ↔
        i = 6)

/-- R129: with the default codec constants and layout, the longest wire frame of each command, attained. -/
def Obligations.LongestCommandFrames : Prop :=
  ∀ c : Config, c.layout = Layout.default → c.flag = 0x7E → c.esc = 0x7D → c.mask = 0x20 →
    (∀ cmd : Cmd, (frameEncode c (cmdEncode c cmd)).length ≤
      (match cmd.opcode with
        | .forward => 8 | .reverse => 8 | .rotate => 8 | .turn => 10 | .driveRaw => 7 | .stop => 4
        | .keepHeading => 11 | .resetOrientation => 3)) ∧
    (∀ op : Opcode, reserved c 0xA3 = false ∧ reserved c (opcodeByte op) = false) ∧
    (∀ (k : SignConv) (v : Int), (dirByte k v = 0 ∨ dirByte k v = 1) ∧ reserved c (dirByte k v) = false) ∧
    (∀ h : ArgValue, (boolByte h = 0 ∨ boolByte h = 1) ∧ reserved c (boolByte h) = false) ∧
    (c.signConv.forward = .neg1 → frameEncode c (cmdEncode c (.motion (.forward 126 125))) =
      [0xA3, 0x10, 0x7D, 0x5E, 0x7D, 0x5D, 0x00, 0x7E]) ∧
    (∀ v : Int, reserved c (u8 v) = true ↔ v = 126 ∨ v = 125) ∧
    (∀ v : Int, reserved c (mag v) = true ↔ |v| = 126 ∨ |v| = 125) ∧
    (frameEncode c (cmdEncode c (.motion (.forward 126 125)))).length = 8 ∧
    (frameEncode c (cmdEncode c (.motion (.reverse 125 126)))).length = 8 ∧
    (frameEncode c (cmdEncode c (.motion (.rotate 126 125)))).length = 8 ∧
    (frameEncode c (cmdEncode c (.motion (.turn 126 125 126)))).length = 10 ∧
    (frameEncode c (cmdEncode c (.motion (.driveRaw 125 126)))).length = 7 ∧
    (frameEncode c (cmdEncode c (.stop (.bool true)))).length = 4 ∧
    (frameEncode c (cmdEncode c (.motion (.keepHeading 126 126 126)))).length = 11 ∧
    (frameEncode c (cmdEncode c (.motion .resetOrientation))).length = 3

/- The frame codec. -/

/-- R94: the facts about STUFF; fact (b) is said symbol by symbol, and each byte's symbol is that of R62 and R92. -/
def Obligations.StuffFacts : Prop :=
  ∀ c : Config, c.codecValid →
    (∀ p, c.flag ∉ stuff c p) ∧
    (∀ p, stuff c p = (p.map (symbol c)).flatten ∧ ∀ y ∈ p.map (symbol c),
      y = [c.esc, c.flag ^^^ c.mask] ∨ y = [c.esc, c.esc ^^^ c.mask] ∨ ∃ d, y = [d] ∧ d ≠ c.flag ∧ d ≠ c.esc) ∧
    (∀ d, symbol c d = if d = c.flag then [c.esc, c.flag ^^^ c.mask]
      else if d = c.esc then [c.esc, c.esc ^^^ c.mask] else [d]) ∧
    (∀ p, (stuff c p).length = p.length + p.countP (reserved c)) ∧
    (∀ p q, stuff c (p ++ q) = stuff c p ++ stuff c q) ∧
    ∀ p q, stuff c p = stuff c q → p = q

/-- R95: ENCODE ends in FLAG and contains it nowhere else, its length, and that it is injective. -/
def Obligations.EncodeFacts : Prop :=
  ∀ c : Config, c.codecValid →
    (∀ p, frameEncode c p = stuff c p ++ [c.flag] ∧ c.flag ∉ stuff c p) ∧
    (∀ p, (frameEncode c p).length = p.length + p.countP (reserved c) + 1) ∧
    ∀ p q, frameEncode c p = frameEncode c q → p = q

/-- R100: UNSTUFF after STUFF and DECODE after ENCODE give the payload back, in both settings of STRICT_UNSTUFF; STUFF and
ENCODE return the body and the wire frame. -/
def Obligations.CodecRoundTrip : Prop :=
  ∀ (s : State) (p : List Byte), s.cfg.codecValid →
    exec (.stuff p) s = .next { s with result := .bytes (stuff s.cfg p) } ∧
    exec (.unstuff (stuff s.cfg p)) s = .next { s with result := .unstuffed (.ok p) } ∧
    exec (.encode p) s = .next { s with result := .bytes (frameEncode s.cfg p) } ∧
    frameEncode s.cfg p = stuff s.cfg p ++ [s.cfg.flag] ∧
    exec (.decode (frameEncode s.cfg p)) s = .next { s with result := .unstuffed (.ok p) }

/-- R101: under the strict setting the accepted bodies are exactly the image of STUFF and UNSTUFF is injective on them;
the lenient setting accepts more. -/
def Obligations.StrictUnstuffConverse : Prop :=
  (∀ (s : State) (body : List Byte), s.cfg.codecValid → s.cfg.strictUnstuff = true → ∃ u,
    exec (.unstuff body) s = .next { s with result := .unstuffed u } ∧
    (∀ p, u = .ok p → stuff s.cfg p = body) ∧
    ((∃ p, u = .ok p) ↔ ∃ p, stuff s.cfg p = body) ∧
    ∀ (b2 p : List Byte), u = .ok p → unstuff s.cfg b2 = .ok p → b2 = body) ∧
  ∀ c : Config, c.flag = 0x7E → c.esc = 0x7D → c.mask = 0x20 → c.strictUnstuff = false →
    unstuff c [0x7D, 0x41] = .ok [0x61] ∧ stuff c [0x61] = [0x61]

/-- The first ill-formed place after a well-formed part decides the cause (R96, R97, R98). -/
def Obligations.IllFormedBodyCauses : Prop :=
  ∀ (s : State) (p rest : List Byte), s.cfg.codecValid →
    exec (.unstuff (stuff s.cfg p ++ [s.cfg.esc])) s =
      .next { s with result := .unstuffed (.malformed .danglingEscape) } ∧
    exec (.unstuff (stuff s.cfg p ++ s.cfg.flag :: rest)) s =
      .next { s with result := .unstuffed (.malformed .embeddedDelimiter) } ∧
    exec (.unstuff (stuff s.cfg p ++ s.cfg.esc :: s.cfg.flag :: rest)) s =
      .next { s with result := .unstuffed (.malformed .embeddedDelimiter) } ∧
    ∀ e : Byte, e ≠ s.cfg.flag → e ≠ s.cfg.flag ^^^ s.cfg.mask → e ≠ s.cfg.esc ^^^ s.cfg.mask →
      (s.cfg.strictUnstuff = true → exec (.unstuff (stuff s.cfg p ++ s.cfg.esc :: e :: rest)) s =
        .next { s with result := .unstuffed (.malformed .badEscape) }) ∧
      (s.cfg.strictUnstuff = false → exec (.unstuff (stuff s.cfg p ++ s.cfg.esc :: e :: stuff s.cfg rest)) s =
        .next { s with result := .unstuffed (.ok (p ++ (e ^^^ s.cfg.mask) :: rest)) })

/-- R99: DECODE removes the delimiters on both sides, however many, and unstuffs what is between. -/
def Obligations.DecodeTrims : Prop :=
  ∀ (s : State) (m n : Nat) (body : List Byte), body.head? ≠ some s.cfg.flag → body.getLast? ≠ some s.cfg.flag →
    exec (.decode (List.replicate m s.cfg.flag ++ body ++ List.replicate n s.cfg.flag)) s =
      .next { s with result := .unstuffed (unstuff s.cfg body) }

/- The receive agent. -/

/-- R142: the complete transition table, on states that meet the receive invariant. -/
def Obligations.ReceiveTransitionTable : Prop :=
  ∀ (s u : State) (b : Byte), ReceiveInv s → u = { s with rxStream := s.rxStream ++ [b] } →
    (s.rxState = .awaitingDelimiter → b = s.cfg.flag → exec (.rxbyte b) s = .next u) ∧
    (s.rxState = .awaitingDelimiter → b ≠ s.cfg.flag → s.cfg.maxBody ≠ some 0 →
      exec (.rxbyte b) s = .next { u with rxState := .accumulatingFrame, rxBuf := [b] }) ∧
    (s.rxState = .awaitingDelimiter → b ≠ s.cfg.flag → s.cfg.maxBody = some 0 →
      exec (.rxbyte b) s = .next { u with rxState := .discarding, rxBuf := [],
                                          evOut := s.evOut ++ [.malformed .overrun],
                                          evUnread := s.evUnread ++ [.malformed .overrun] }) ∧
    (s.rxState = .accumulatingFrame → b ≠ s.cfg.flag → s.cfg.maxBody ≠ some s.rxBuf.length →
      exec (.rxbyte b) s = .next { u with rxState := .accumulatingFrame, rxBuf := s.rxBuf ++ [b] }) ∧
    (s.rxState = .accumulatingFrame → b ≠ s.cfg.flag → s.cfg.maxBody = some s.rxBuf.length →
      exec (.rxbyte b) s = .next { u with rxState := .discarding, rxBuf := [],
                                          evOut := s.evOut ++ [.malformed .overrun],
                                          evUnread := s.evUnread ++ [.malformed .overrun] }) ∧
    (∀ f, s.rxState = .accumulatingFrame → b = s.cfg.flag → unstuff s.cfg s.rxBuf = .ok f →
      exec (.rxbyte b) s = .next { u with rxState := .awaitingDelimiter, rxBuf := [],
                                          evOut := s.evOut ++ [frameEvent s.cfg f],
                                          evUnread := s.evUnread ++ [frameEvent s.cfg f] }) ∧
    (∀ k, s.rxState = .accumulatingFrame → b = s.cfg.flag → unstuff s.cfg s.rxBuf = .malformed k →
      exec (.rxbyte b) s = .next { u with rxState := .awaitingDelimiter, rxBuf := [],
                                          evOut := s.evOut ++ [.malformed k],
                                          evUnread := s.evUnread ++ [.malformed k] }) ∧
    (s.rxState = .discarding → b ≠ s.cfg.flag → exec (.rxbyte b) s = .next u) ∧
    (s.rxState = .discarding → b = s.cfg.flag →
      exec (.rxbyte b) s = .next { u with rxState := .awaitingDelimiter })

/-- CLASSIFY (R150 to R155): exactly one event, chosen by length, marker, tag and odometry length. -/
def Obligations.ClassifyTests : Prop :=
  ∀ (s : State) (first : Byte) (rest : List Byte), s.cfg.tagsValid → ∃ e,
    exec (.classify first rest) s = .next { s with evOut := s.evOut ++ [e], evUnread := s.evUnread ++ [e] } ∧
    e = frameEvent s.cfg (first :: rest) ∧
    (rest = [] → e = .unknown [first]) ∧
    (s.cfg.markerCheck = true → first ≠ s.cfg.respMarker → e = .unknown (first :: rest)) ∧
    ∀ tag payload, rest = tag :: payload → (s.cfg.markerCheck = false ∨ first = s.cfg.respMarker) →
      (tag = s.cfg.tagReady → e = .ready) ∧
      (tag = s.cfg.tagOdometry → payload.length < 6 → e = .unknown (first :: rest)) ∧
      (∀ q0 q1 q2 q3 q4 q5 more, tag = s.cfg.tagOdometry → payload = q0 :: q1 :: q2 :: q3 :: q4 :: q5 :: more →
        e = .odometry ((q1.toNat : Int) * (if q0 = 0 then -1 else (q0.toNat : Int)))
              ((q3.toNat : Int) * (if q2 = 0 then -1 else (q2.toNat : Int))) (parseFixed s.cfg q4 q5)) ∧
      (tag = s.cfg.tagTargetReached → e = .targetReached) ∧
      (tag ≠ s.cfg.tagReady → tag ≠ s.cfg.tagOdometry → tag ≠ s.cfg.tagTargetReached →
        e = .unknown (first :: rest))

/-- The RSP rows as the model reads them (DEDUCED, log 7): each is the arrival of the wire bytes of a frame of its class,
in one step (DESIGN CHOICE, log 7). Between frames, with room for the body, the row's event is emitted (R153 to R155),
caused by those bytes (R216), and nothing else changes. -/
def Obligations.ResponseRowsEmit : Prop :=
  ∀ (s : State) (ready reached : List Byte) (odo : Byte → Byte → Byte → Byte → Byte → Byte → List Byte),
    ready = [s.cfg.respMarker, s.cfg.tagReady] → reached = [s.cfg.respMarker, s.cfg.tagTargetReached] →
    (∀ ld ln rd rn hm hl, odo ld ln rd rn hm hl = [s.cfg.respMarker, s.cfg.tagOdometry, ld, ln, rd, rn, hm, hl]) →
    (exec .ready s = exec (.rxchunk (frameEncode s.cfg ready)) s ∧
      (∀ ld ln rd rn hm hl,
        exec (.odometry ld ln rd rn hm hl) s = exec (.rxchunk (frameEncode s.cfg (odo ld ln rd rn hm hl))) s) ∧
      exec .targetReached s = exec (.rxchunk (frameEncode s.cfg reached)) s ∧
      ∀ first rest, exec (.unknown first rest) s = exec (.rxchunk (frameEncode s.cfg (first :: rest))) s) ∧
    (s.cfg.codecValid → s.cfg.tagsValid → Idle s →
      (withinLimit s.cfg (stuff s.cfg ready).length = true → exec .ready s =
        .next { s with rxStream := s.rxStream ++ frameEncode s.cfg ready, evOut := s.evOut ++ [.ready],
                       evUnread := s.evUnread ++ [.ready] }) ∧
      (withinLimit s.cfg (stuff s.cfg reached).length = true → exec .targetReached s =
        .next { s with rxStream := s.rxStream ++ frameEncode s.cfg reached, evOut := s.evOut ++ [.targetReached],
                       evUnread := s.evUnread ++ [.targetReached] }) ∧
      (∀ ld ln rd rn hm hl e, withinLimit s.cfg (stuff s.cfg (odo ld ln rd rn hm hl)).length = true →
        e = Event.odometry ((ln.toNat : Int) * (if ld = 0 then -1 else (ld.toNat : Int)))
              ((rn.toNat : Int) * (if rd = 0 then -1 else (rd.toNat : Int))) (parseFixed s.cfg hm hl) →
        exec (.odometry ld ln rd rn hm hl) s =
          .next { s with rxStream := s.rxStream ++ frameEncode s.cfg (odo ld ln rd rn hm hl),
                         evOut := s.evOut ++ [e], evUnread := s.evUnread ++ [e] }) ∧
      ∀ first rest, Instr.wellFormed s.cfg (.unknown first rest) = true →
        withinLimit s.cfg (stuff s.cfg (first :: rest)).length = true → exec (.unknown first rest) s =
          .next { s with rxStream := s.rxStream ++ frameEncode s.cfg (first :: rest),
                         evOut := s.evOut ++ [.unknown (first :: rest)],
                         evUnread := s.evUnread ++ [.unknown (first :: rest)] })

/-- CLOSEFRAME (R149): with a body held the buffer empties, the state is at the boundary and one event is emitted. -/
def Obligations.CloseFrameOutcomes : Prop :=
  ∀ s : State,
    (∀ f, s.rxBuf ≠ [] → unstuff s.cfg s.rxBuf = .ok f → f ≠ [] ∧
      exec .closeframe s = .next { s with rxState := .awaitingDelimiter, rxBuf := [],
                                          evOut := s.evOut ++ [frameEvent s.cfg f],
                                          evUnread := s.evUnread ++ [frameEvent s.cfg f] }) ∧
    ∀ k, s.rxBuf ≠ [] → unstuff s.cfg s.rxBuf = .malformed k → k ≠ .overrun ∧
      (s.cfg.flag ∉ s.rxBuf → k ≠ .embeddedDelimiter) ∧
      exec .closeframe s = .next { s with rxState := .awaitingDelimiter, rxBuf := [],
                                          evOut := s.evOut ++ [.malformed k],
                                          evUnread := s.evUnread ++ [.malformed k] }

/-- R148: a chunk is its bytes one at a time, an empty chunk does nothing, and two chunks are their concatenation. That a
call of RXCHUNK is one step is the model's choice (log 25). -/
def Obligations.ChunkIsItsBytes : Prop :=
  (∀ s : State, exec (.rxchunk []) s = .next s) ∧
  (∀ (s : State) (b : Byte) (c : List Byte), ∃ u t, exec (.rxbyte b) s = .next u ∧
    exec (.rxchunk c) u = .next t ∧ exec (.rxchunk (b :: c)) s = .next t) ∧
  ∀ (s : State) (c1 c2 : List Byte), ∃ u t, exec (.rxchunk c1) s = .next u ∧
    exec (.rxchunk c2) u = .next t ∧ exec (.rxchunk (c1 ++ c2)) s = .next t

/-- The WIRE rows as the model reads them (DESIGN CHOICE, log 6): each is the receiving of its symbol's bytes, in one step.
On a frame in progress those bytes (R61, R62) are then held as they came (R144). -/
def Obligations.WireSymbolsAreReceived : Prop :=
  (∀ s : State, exec .delimiter s = exec (.rxbyte s.cfg.flag) s ∧
    exec .escapedFlag s = exec (.rxchunk [s.cfg.esc, s.cfg.flag ^^^ s.cfg.mask]) s ∧
    exec .escapedEsc s = exec (.rxchunk [s.cfg.esc, s.cfg.esc ^^^ s.cfg.mask]) s ∧
    exec .danglingEscape s = exec (.rxchunk [s.cfg.esc, s.cfg.flag]) s ∧
    ∀ d, exec (.literal d) s = exec (.rxbyte d) s ∧ exec (.badEscape d) s = exec (.rxchunk [s.cfg.esc, d]) s) ∧
  ∀ s : State, s.cfg.codecValid → s.rxState ≠ .discarding → withinLimit s.cfg (s.rxBuf.length + 2) = true →
    (s.rxBuf = [] → exec .delimiter s = .next { s with rxStream := s.rxStream ++ [s.cfg.flag] }) ∧
    exec .escapedFlag s = .next { s with rxState := .accumulatingFrame,
                                         rxBuf := s.rxBuf ++ [s.cfg.esc, s.cfg.flag ^^^ s.cfg.mask],
                                         rxStream := s.rxStream ++ [s.cfg.esc, s.cfg.flag ^^^ s.cfg.mask] } ∧
    exec .escapedEsc s = .next { s with rxState := .accumulatingFrame,
                                        rxBuf := s.rxBuf ++ [s.cfg.esc, s.cfg.esc ^^^ s.cfg.mask],
                                        rxStream := s.rxStream ++ [s.cfg.esc, s.cfg.esc ^^^ s.cfg.mask] } ∧
    (∀ d, d ≠ s.cfg.flag → exec (.literal d) s =
      .next { s with rxState := .accumulatingFrame, rxBuf := s.rxBuf ++ [d], rxStream := s.rxStream ++ [d] }) ∧
    ∀ e, e ≠ s.cfg.flag → exec (.badEscape e) s =
      .next { s with rxState := .accumulatingFrame, rxBuf := s.rxBuf ++ [s.cfg.esc, e],
                     rxStream := s.rxStream ++ [s.cfg.esc, e] }

/-- Ill-formed symbols on the wire (R97, R98, R220): after well-formed bytes of a frame, a dangling escape is reported
at its FLAG, a bad escape by the delimiter that closes the frame, and the frame is dropped. That these rows receive their
symbol's bytes, both in one step, is the model's choice (log 6). -/
def Obligations.IllFormedSymbolsAreReported : Prop :=
  ∀ (s : State) (p : List Byte), s.cfg.codecValid → s.rxState ≠ .discarding → s.rxBuf = stuff s.cfg p →
    withinLimit s.cfg (s.rxBuf.length + 2) = true →
    exec .danglingEscape s = .next { s with rxState := .awaitingDelimiter, rxBuf := [],
                                            rxStream := s.rxStream ++ [s.cfg.esc, s.cfg.flag],
                                            evOut := s.evOut ++ [.malformed .danglingEscape],
                                            evUnread := s.evUnread ++ [.malformed .danglingEscape] } ∧
    ∀ e, Instr.wellFormed s.cfg (.badEscape e) = true → s.cfg.strictUnstuff = true →
      ∃ u, exec (.badEscape e) s = .next u ∧ u.evOut = s.evOut ∧
        exec .delimiter u = .next { u with rxState := .awaitingDelimiter, rxBuf := [],
                                           rxStream := u.rxStream ++ [s.cfg.flag],
                                           evOut := u.evOut ++ [.malformed .badEscape],
                                           evUnread := u.evUnread ++ [.malformed .badEscape] }

/-- R103 and R156 (e): through the stream a payload is delivered, as the event of CLASSIFY, if and only if it is not
empty; the receive agent is back between frames. -/
def Obligations.StreamRoundTrip : Prop :=
  ∀ (s : State) (p : List Byte) (es : List Event), s.cfg.codecValid → Idle s →
    withinLimit s.cfg (stuff s.cfg p).length = true → es = (if p = [] then [] else [frameEvent s.cfg p]) →
    exec (.rxchunk (frameEncode s.cfg p)) s =
      .next { s with rxStream := s.rxStream ++ frameEncode s.cfg p, evOut := s.evOut ++ es,
                     evUnread := s.evUnread ++ es }

/-- R157: the source's two resynchronisation tests. -/
def Obligations.ResynchronisationTests : Prop :=
  ∀ (s : State) (f1 f2 : List Byte), s.cfg.codecValid → Idle s → f1 ≠ [] → f2 ≠ [] →
    withinLimit s.cfg (stuff s.cfg f1).length = true →
    (∀ (a b k : Nat) (w : List Byte), withinLimit s.cfg (stuff s.cfg f2).length = true →
      w = List.replicate a s.cfg.flag ++ frameEncode s.cfg f1 ++ List.replicate b s.cfg.flag ++
        frameEncode s.cfg f2 ++ List.replicate k s.cfg.flag →
      exec (.rxchunk w) s = .next { s with
        rxStream := s.rxStream ++ w,
        evOut := s.evOut ++ [frameEvent s.cfg f1, frameEvent s.cfg f2],
        evUnread := s.evUnread ++ [frameEvent s.cfg f1, frameEvent s.cfg f2] }) ∧
    ∀ (g w : List Byte), g ≠ [] → s.cfg.flag ∉ g → withinLimit s.cfg (g ++ stuff s.cfg f2).length = true →
      w = frameEncode s.cfg f1 ++ g ++ frameEncode s.cfg f2 →
      ∃ e, exec (.rxchunk w) s = .next { s with
          rxStream := s.rxStream ++ w,
          evOut := s.evOut ++ [frameEvent s.cfg f1, e],
          evUnread := s.evUnread ++ [frameEvent s.cfg f1, e] } ∧
        (∀ k, unstuff s.cfg (g ++ stuff s.cfg f2) = .malformed k → e = .malformed k) ∧
        ∀ f, unstuff s.cfg (g ++ stuff s.cfg f2) = .ok f → e = frameEvent s.cfg f

/-- R102: after any bytes and the next FLAG the receiver is at a frame boundary, and a frame that starts there is
received as itself. -/
def Obligations.SelfSynchronisation : Prop :=
  ∀ (s : State) (noise p : List Byte), ReceiveInv s → s.cfg.codecValid → p ≠ [] →
    withinLimit s.cfg (stuff s.cfg p).length = true →
    ∃ u, exec (.rxchunk (noise ++ [s.cfg.flag])) s = .next u ∧ Idle u ∧
      exec (.rxchunk (noise ++ [s.cfg.flag] ++ frameEncode s.cfg p)) s =
        .next { u with rxStream := u.rxStream ++ frameEncode s.cfg p, evOut := u.evOut ++ [frameEvent s.cfg p],
                       evUnread := u.evUnread ++ [frameEvent s.cfg p] }

/-- R147: in Discarding bytes are thrown away up to the next FLAG, without an event; the bytes of a frame that overruns
a finite buffer give exactly one Malformed(Overrun) and nothing else. -/
def Obligations.OverrunReportedOnce : Prop :=
  (∀ (s : State) (body : List Byte), ReceiveInv s → s.rxState = .discarding → s.cfg.flag ∉ body →
    exec (.rxchunk body) s = .next { s with rxStream := s.rxStream ++ body } ∧
    exec (.rxchunk (body ++ [s.cfg.flag])) s =
      .next { s with rxState := .awaitingDelimiter, rxStream := s.rxStream ++ body ++ [s.cfg.flag] }) ∧
  ∀ (s : State) (n : Nat) (body : List Byte), Idle s → s.cfg.maxBody = some n → s.cfg.flag ∉ body →
    n < body.length →
    (∃ u, exec (.rxchunk body) s = .next u ∧ u.rxState = .discarding ∧ u.rxBuf = []) ∧
    exec (.rxchunk (body ++ [s.cfg.flag])) s =
      .next { s with rxStream := s.rxStream ++ body ++ [s.cfg.flag],
                     evOut := s.evOut ++ [.malformed .overrun],
                     evUnread := s.evUnread ++ [.malformed .overrun] }

/-- R156 (b), (c), R218: a byte emits at most one event, only a FLAG or the overrunning byte emits one, and after a
FLAG the agent is between frames. -/
def Obligations.AtMostOneEventPerByte : Prop :=
  ∀ (s : State) (b : Byte), ReceiveInv s → ∃ t, exec (.rxbyte b) s = .next t ∧
    (t.evOut = s.evOut ∧ t.evUnread = s.evUnread ∨
      ∃ e, t.evOut = s.evOut ++ [e] ∧ t.evUnread = s.evUnread ++ [e] ∧
        (b = s.cfg.flag ∨ e = .malformed .overrun ∧ s.cfg.maxBody = some s.rxBuf.length)) ∧
    (b = s.cfg.flag → Idle t)

/-- R220: a byte that raises Malformed drops the bytes held and moves to the boundary, or to Discarding for an
overrun; nothing else of the machine changes. -/
def Obligations.MalformedDropsTheFrame : Prop :=
  ∀ (s t : State) (b : Byte) (k : Cause), exec (.rxbyte b) s = .next t → t.evOut = s.evOut ++ [.malformed k] →
    t = { s with rxState := if k = .overrun then .discarding else .awaitingDelimiter, rxBuf := [],
                 rxStream := s.rxStream ++ [b], evOut := s.evOut ++ [.malformed k],
                 evUnread := s.evUnread ++ [.malformed k] }

/-- R141: the receive step reads nothing but RX_STATE, RX_BUF and the parameters; in particular not PENDING. -/
def Obligations.ReceiveReadsOnlyItsState : Prop :=
  ∀ (s1 s2 : State) (b : Byte), s1.cfg = s2.cfg → s1.rxState = s2.rxState → s1.rxBuf = s2.rxBuf →
    ∃ t1 t2 es, exec (.rxbyte b) s1 = .next t1 ∧ exec (.rxbyte b) s2 = .next t2 ∧
      t1.rxState = t2.rxState ∧ t1.rxBuf = t2.rxBuf ∧
      t1.evOut = s1.evOut ++ es ∧ t2.evOut = s2.evOut ++ es

/-- R219: a TX step and an RX step never touch the same state, so their order is free. -/
def Obligations.TransmitReceiveCommute : Prop :=
  ∀ (s : State) (cmd : Cmd) (b : Byte), ∃ u v t,
    exec (.txcmd cmd) s = .next u ∧ exec (.rxbyte b) u = .next t ∧
    exec (.rxbyte b) s = .next v ∧ exec (.txcmd cmd) v = .next t

/-- The frame of every receiving instruction (R36, R141): only RX_STATE, RX_BUF, the bytes consumed and the events
emitted can change. That the WIRE and RSP rows are receiving instructions is the model's reading (log 6, log 7). -/
def Obligations.ReceiveFrame : Prop :=
  ∀ (i : Instr) (s t : State),
    (i.format = .rsp ∨ i.format = .wire ∨ (∃ b, i = .rxbyte b) ∨ (∃ c, i = .rxchunk c) ∨ i = .closeframe ∨
      ∃ f r, i = .classify f r) →
    exec i s = .next t →
    t = { s with rxState := t.rxState, rxBuf := t.rxBuf, rxStream := t.rxStream, evOut := t.evOut,
                 evUnread := t.evUnread }

/- The telemetry decoder. -/

/-- R172: TICKS is the literal product, and its range. -/
def Obligations.TicksProduct : Prop :=
  ∀ (s : State) (d n : Byte), ∃ v : Int,
    exec (.ticks d n) s = .next { s with result := .ticks v } ∧
    v = n.toNat * (if d = 0 then -1 else (d.toNat : Int)) ∧ -255 ≤ v ∧ v ≤ 65025 ∧
    (d = 0 → n = 255 → v = -255) ∧ (d = 255 → n = 255 → v = 65025)

/-- R175: the closed forms of PARSEFIXED in both modes, and when they agree. -/
def Obligations.ParseFixedClosedForms : Prop :=
  ∀ (s : State) (msb lsb : Byte) (digits : Nat), digits = (if lsb.toNat < 2 then 1 else Nat.log2 lsb.toNat + 1) →
    (s.cfg.headingMode = .padded8 → exec (.parsefixed msb lsb) s =
      .next { s with result := .fixed (256 * msb.toNat + lsb.toNat) }) ∧
    (s.cfg.headingMode = .unpadded → exec (.parsefixed msb lsb) s =
      .next { s with result := .fixed (msb.toNat * 2 ^ digits + lsb.toNat) }) ∧
    (256 * msb.toNat + lsb.toNat = msb.toNat * 2 ^ digits + lsb.toNat ↔ msb = 0 ∨ 128 ≤ lsb.toNat)

/-- R176: HEADING gives the raw count, at most 16 bits, and exactly its hundredth in degrees; no reduction modulo
360. -/
def Obligations.HeadingInHundredths : Prop :=
  ∀ (s : State) (msb lsb : Byte), ∃ raw : Nat,
    exec (.heading msb lsb) s = .next { s with result := .heading raw ((raw : Rat) / 100) } ∧
    exec (.parsefixed msb lsb) s = .next { s with result := .fixed raw } ∧ raw ≤ 65535 ∧
    (s.cfg.headingMode = .padded8 → msb = 0x8C → lsb = 0xA0 → (raw : Rat) / 100 = 360)

/-- R177: the three results of TELEMETRY are those of TICKS, TICKS and PARSEFIXED on their own two bytes. -/
def Obligations.TelemetryTriple : Prop :=
  ∀ (s : State) (q0 q1 q2 q3 q4 q5 : Byte), ∃ (l r : Int) (h : Nat),
    exec (.ticks q0 q1) s = .next { s with result := .ticks l } ∧
    exec (.ticks q2 q3) s = .next { s with result := .ticks r } ∧
    exec (.parsefixed q4 q5) s = .next { s with result := .fixed h } ∧
    exec (.telemetry q0 q1 q2 q3 q4 q5) s = .next { s with result := .telemetry l r h }

/- The host side. -/

/-- R193: which commands are completion-bearing. -/
def Obligations.BearingCommands : Prop :=
  (∀ s d, bearing (.forward s d) = true ↔ d ≠ 0) ∧ (∀ s d, bearing (.reverse s d) = true ↔ d ≠ 0) ∧
  (∀ s a, bearing (.rotate s a) = true ↔ a ≠ 0) ∧ (∀ s a r, bearing (.turn s a r) = true ↔ a ≠ 0) ∧
  (∀ s h d, bearing (.keepHeading s h d) = true ↔ d ≠ 0) ∧ (∀ l r, bearing (.driveRaw l r) = false) ∧
  bearing .resetOrientation = false

/-- ISSUE (R192, R198): it writes the frame; a bearing command gets the one slot's handle, any other resolves at once
(which of them return nothing is not in the source, log 15), and a bearing one while the slot is taken is refused. The
number of a handle (log 17) and that the command does not pass through CMD_IN (log 24) are the model's choices. -/
def Obligations.IssueWritesAndTakesTheSlot : Prop :=
  ∀ (s : State) (m : Motion) (w : List Byte), w = frameEncode s.cfg (cmdEncode s.cfg (.motion m)) →
    (bearing m = true → s.pending ≠ none → exec (.issue m) s = .refused .overlappingCompletion) ∧
    (bearing m = true → s.pending = none → s.writeFails = false → exec (.issue m) s =
      .next { s with txStream := s.txStream ++ w, pending := some s.handles.length,
                     handles := s.handles ++ [.unresolved], result := .handle s.handles.length }) ∧
    (bearing m = false → s.writeFails = false → exec (.issue m) s =
      .next { s with txStream := s.txStream ++ w, result := .immediate (Config.returnsNothing m.opcode) })

/-- R195: a TargetReached event resolves whatever is pending, else nothing, and is published in both cases. -/
def Obligations.TargetReachedResolvesPending : Prop :=
  ∀ s : State,
    (∀ h, s.pending = some h → exec .ontargetreached s =
      .next { s with pending := none, handles := s.handles.set h .resolved,
                     notifications := s.notifications ++ [.targetReached] }) ∧
    (s.pending = none → exec .ontargetreached s =
      .next { s with notifications := s.notifications ++ [.targetReached] })

/-- The source's completion test (S5; R192, R195): the handle of a bearing command stays unresolved through the issue
and is resolved, and the slot free, after the next TargetReached. That this holds also of a command whose write failed is
the model's choice (93 U14 leaves it open; log 13), and so is the number of a handle (log 17). -/
def Obligations.IssuedCommandCompletes : Prop :=
  ∀ (s : State) (m : Motion), bearing m = true → s.pending = none → ∃ u t,
    exec (.issue m) s = .next u ∧ u.pending = some s.handles.length ∧
    u.handles[s.handles.length]? = some .unresolved ∧
    exec .ontargetreached u = .next t ∧ t.pending = none ∧ t.handles[s.handles.length]? = some .resolved

/-- STOPCMD (R196): it writes at once and resolves after 0 or SETTLE_DELAY, without PENDING. How the time left is held
(log 16), and that the command does not pass through CMD_IN (log 24), are the model's choices. -/
def Obligations.StopCallDelay : Prop :=
  ∀ (s : State) (hard : ArgValue) (d : Nat) (w : List Byte), s.writeFails = false →
    w = frameEncode s.cfg (cmdEncode s.cfg (.stop hard)) →
    d = (if truth hard = true then 0 else s.cfg.settleDelay) →
    exec (.stopcmd hard) s = .next { s with txStream := s.txStream ++ w, stopCalls := s.stopCalls ++ [d],
                                            result := .resolvesAfter d }

/-- A call whose write failed: the transport's report of it is put among the turns still to be taken, every other effect
happens, and the call's own result is free (R41, R192, 93 U14; the model's way to say so, log 13). -/
def Obligations.FailedWriteLeavesResultFree : Prop :=
  ∀ (s : State) (ts : List Turn) (o : Result), s.writeFails = true → ts = agendaWithError s.freeCount s.agenda →
    o = .writeFailed (Config.freeCallOutcome (s.freeCount + 1)) →
    (∃ before after, ts = before ++ .transport (.error (Config.freeErrorInfo s.freeCount)) :: after ∧
      s.agenda = before ++ after) ∧
    (∀ cmd w, w = frameEncode s.cfg (cmdEncode s.cfg cmd) → exec (.txcmd cmd) s =
      .next { s with txStream := s.txStream ++ w, agenda := ts, freeCount := s.freeCount + 1 }) ∧
    (∀ m w, w = frameEncode s.cfg (cmdEncode s.cfg (.motion m)) →
      (bearing m = true → s.pending = none → exec (.issue m) s =
        .next { s with txStream := s.txStream ++ w, pending := some s.handles.length,
                       handles := s.handles ++ [.unresolved], agenda := ts, result := o,
                       freeCount := s.freeCount + 2 }) ∧
      (bearing m = false → exec (.issue m) s =
        .next { s with txStream := s.txStream ++ w, agenda := ts, result := o, freeCount := s.freeCount + 2 })) ∧
    ∀ hard d w, w = frameEncode s.cfg (cmdEncode s.cfg (.stop hard)) →
      d = (if truth hard = true then 0 else s.cfg.settleDelay) → exec (.stopcmd hard) s =
        .next { s with txStream := s.txStream ++ w, stopCalls := s.stopCalls ++ [d], agenda := ts, result := o,
                       freeCount := s.freeCount + 2 }

/-- CANCEL (R197): the pending handle is cancelled and the slot is free; nothing is sent. -/
def Obligations.CancelFreesTheSlot : Prop :=
  ∀ (s : State) (h : Nat), s.pending = some h → exec .cancel s =
    .next { s with pending := none, handles := s.handles.set h .cancelled }

/-- Two calls the rules do not cover, as the model treats them: CLOSEFRAME on an empty buffer is refused (log 10),
CANCEL with nothing pending changes nothing (log 20). -/
def Obligations.CallsOutsideTheirPrecondition : Prop :=
  ∀ s : State, (s.rxBuf = [] → exec .closeframe s = .refused .closeOfEmptyBuffer) ∧
    (s.pending = none → exec .cancel s = .next s)

/-- INIT (R200, R201, R241): on an active connection it is rejected and only says so; else the transport is flushed,
the block reset, and the connection active. That the reset drops unread events and waiting commands and keeps PENDING,
the handles and the histories is the model's choice (log 11), and so is that opening the transport succeeds and that the
call waits in a field of its own, in which it replaces an earlier call that still waits (log 18). -/
def Obligations.InitStartsOrIsRejected : Prop :=
  ∀ s : State,
    (s.active = true → exec .init s = .next { s with result := .alreadyOpen }) ∧
    (s.active = false → exec .init s =
      .next { s with rxState := .awaitingDelimiter, rxBuf := [], cmdIn := [], rxIn := [], evUnread := [],
                     active := true, initCall := .waiting, result := .initStarted })

/-- A transport notification is published and changes neither the receive state nor a stream or an event (R215). The
model's choices: PENDING and the handles stay as they are (93 U15 allows any outcome; log 19), an error leaves ACTIVE as
it is (log 14, log 18), and a close or disconnect leaves it free but never sets it (93 U16; log 14). -/
def Obligations.TransportPassesTheBlock : Prop :=
  ∀ (s : State) (n : TransportNote) (ts : List Turn), s.agenda = .transport n :: ts → ∃ t, step s = .next t ∧
    t.notifications = s.notifications ++ [.transport n] ∧ t.agenda = ts ∧
    t = { s with agenda := ts, notifications := t.notifications, initCall := t.initCall, active := t.active,
                 freeCount := t.freeCount } ∧
    (∀ info, n = .error info → t.active = s.active ∧
      t.initCall = if s.initCall = .waiting then .failure else s.initCall) ∧
    ((n = .close ∨ n = .disconnect) → t.initCall = s.initCall ∧ (s.active = false → t.active = false))

/-- Where each event goes (R217, R200). That it goes there at a turn of the host's own, the oldest unread event first, and
not in the step that emits it, is the model's choice (log 18, with the agenda of log 3). -/
def Obligations.EventsAreRouted : Prop :=
  ∀ (s u : State) (e : Event) (es : List Event) (ts : List Turn), s.agenda = .host :: ts → s.evUnread = e :: es →
    u = { s with agenda := ts, evUnread := es } →
    (e = .targetReached → step s = exec .ontargetreached u) ∧
    (∀ l r h, e = .odometry l r h →
      step s = .next { u with notifications := s.notifications ++ [.odometry l r h] }) ∧
    (e = .ready → step s =
      .next { u with initCall := if s.initCall = .waiting then .ready else s.initCall }) ∧
    (∀ f, e = .unknown f → step s = .next { u with log := s.log ++ [e] }) ∧
    ∀ k, e = .malformed k → step s = .next { u with log := s.log ++ [e] }

/- Steps, decoding and encoding. -/

/-- A step runs the decoded instruction: an encoded item at the head of the agenda, a called operation, and a table
pattern placed by withFetchWord (log 3, log 23). -/
def Obligations.StepRunsTheInstruction : Prop :=
  (∀ (s : State) (f : Format) (bs left : List Byte) (ts : List Turn) (i : Instr), s.agenda = .encoded f bs :: ts →
    decode s.cfg f bs = .ok (i, left) →
    step s = exec i { s with agenda := if left = [] then ts else .encoded f left :: ts }) ∧
  (∀ (s : State) (i : Instr) (ts : List Turn), s.agenda = .call i :: ts →
    step s = exec i { s with agenda := ts }) ∧
  (∀ (s : State) (f : Format) (bs : List Byte) (ts : List Turn) (e : DecodeError), s.agenda = .encoded f bs :: ts →
    bs ≠ [] → decode s.cfg f bs = .error e → step s = .refused (.undecodable e)) ∧
  ∀ (s : State) (nbits w : Nat) (f : Format) (bs left : List Byte) (i : Instr), bs = tableBytes nbits w →
    f = tableFormat s.cfg nbits bs → decode s.cfg f bs = .ok (i, left) →
    step (s.withFetchWord nbits w) =
      exec i { s with agenda := if left = [] then s.agenda else .encoded f left :: s.agenda }

/-- The turns that carry no instruction of their own and no event (R20, R40, R42, R50, R240): TX takes the oldest command,
RX the oldest byte, an agent or host with nothing to take, an encoded item without bytes and a machine with no turn left
change nothing else, and inputs queue up in order; time counts down the stop calls and writes may start or stop failing
(log 3, log 13, log 16, log 23). -/
def Obligations.StepTakesTheTurn : Prop :=
  (∀ (s : State) (c : Cmd) (cs : List Cmd) (ts : List Turn), s.agenda = .tx :: ts → s.cmdIn = c :: cs →
    step s = exec (.txcmd c) { s with agenda := ts, cmdIn := cs }) ∧
  (∀ (s : State) (b : Byte) (bs : List Byte) (ts : List Turn), s.agenda = .rx :: ts → s.rxIn = b :: bs →
    step s = exec (.rxbyte b) { s with agenda := ts, rxIn := bs }) ∧
  (∀ (s : State) (ts : List Turn), s.agenda = .tx :: ts → s.cmdIn = [] → step s = .next { s with agenda := ts }) ∧
  (∀ (s : State) (ts : List Turn), s.agenda = .rx :: ts → s.rxIn = [] → step s = .next { s with agenda := ts }) ∧
  (∀ (s : State) (c : List Byte) (ts : List Turn), s.agenda = .deliver c :: ts →
    step s = .next { s with agenda := ts, rxIn := s.rxIn ++ c }) ∧
  (∀ (s : State) (c : Cmd) (ts : List Turn), s.agenda = .submit c :: ts →
    step s = .next { s with agenda := ts, cmdIn := s.cmdIn ++ [c] }) ∧
  (∀ (s : State) (d : Nat) (ts : List Turn), s.agenda = .elapse d :: ts →
    step s = .next { s with agenda := ts, stopCalls := s.stopCalls.map fun left => left - d }) ∧
  (∀ (s : State) (fail : Bool) (ts : List Turn), s.agenda = .writes fail :: ts →
    step s = .next { s with agenda := ts, writeFails := fail }) ∧
  (∀ (s : State) (ts : List Turn), s.agenda = .host :: ts → s.evUnread = [] →
    step s = .next { s with agenda := ts }) ∧
  (∀ (s : State) (f : Format) (ts : List Turn), s.agenda = .encoded f [] :: ts →
    step s = .next { s with agenda := ts }) ∧
  ∀ s : State, s.agenda = [] → step s = .next s

/-- The words of spec/opcode_table.json that have a fixed pattern decode to their rows' instructions. The zero bytes above
a pattern and the level at which it is read are the model's (log 9), and so is that magnitude 0 with direction 0 is the
argument 0 under every SIGN_CONV (log 8). -/
def Obligations.TableWordsDecode : Prop :=
  decodeTableWord 16 0xA310 = some (.forward 0 0) ∧ decodeTableWord 16 0xA311 = some (.reverse 0 0) ∧
  decodeTableWord 16 0xA312 = some (.rotate 0 0) ∧ decodeTableWord 16 0xA313 = some (.turn 0 0 0) ∧
  decodeTableWord 16 0xA314 = some (.driveRaw 0 0) ∧ decodeTableWord 16 0xA315 = some (.stop (.bool false)) ∧
  decodeTableWord 16 0xA316 = some (.keepHeading 0 0 0) ∧ decodeTableWord 16 0xA320 = some .resetOrientation ∧
  decodeTableWord 8 0x7E = some .delimiter ∧ decodeTableWord 16 0x7D5E = some .escapedFlag ∧
  decodeTableWord 16 0x7D5D = some .escapedEsc

/-- Decode and encode agree: every well-formed instruction that has an encoding is read back from it, whatever bytes
follow (an inbound frame is a whole frame). How outbound frames are read is the model's choice (log 8). -/
def Obligations.DecodeEncodeRoundTrip : Prop :=
  ∀ (c : Config) (i : Instr) (bs rest : List Byte), c.codecValid → c.tagsValid → c.layout = Layout.default →
    i.wellFormed c = true → encode c i = some bs →
    (i.format ≠ .rsp → decode c i.format (bs ++ rest) = .ok (i, rest)) ∧
    (i.format = .rsp → decode c .rsp bs = .ok (i, []))

/-- What is decoded is well-formed and of its format, and reading the wire drops no byte. The reader of outbound frames,
of which the command part speaks, is the model's choice, a BOOL byte read as a Boolean among it (log 8). -/
def Obligations.DecodedInstructionsAreWellFormed : Prop :=
  ∀ (c : Config) (f : Format) (bs left : List Byte) (i : Instr), c.layout = Layout.default →
    decode c f bs = .ok (i, left) → i.wellFormed c = true ∧ i.format = f ∧
    (f = .wire → ∃ w, encode c i = some w ∧ bs = w ++ left)

/-- Byte values that are not opcodes: the encoder produces none of them (R75), and the decoder refuses them by name, which
is the model's own (93 U9; log 8, log 23). -/
def Obligations.UnassignedOpcodesRefused : Prop :=
  (∀ (c : Config) (b : Byte) (rest : List Byte),
    (b.toNat ≤ 0x0F ∨ 0x17 ≤ b.toNat ∧ b.toNat ≤ 0x1F ∨ 0x21 ≤ b.toNat) →
    decode c .cmd (0xA3 :: b :: rest) = .error (.unassignedOpcode b)) ∧
  ∀ (c : Config) (cmd : Cmd) (b : Byte), (cmdEncode c cmd)[1]? = some b →
    0x10 ≤ b.toNat ∧ b.toNat ≤ 0x16 ∨ b.toNat = 0x20

/- Invariants and rules of the whole machine. -/

/-- Nothing stops the machine (R55, R214) but what the rules put outside the contract: no instruction and no step ever
faults; ISSUE of a bearing command while PENDING is held (R198) and CLOSEFRAME on an empty buffer (log 10) are refused,
and every other instruction answers a next state. -/
def Obligations.OnlyTwoCallsAreRefused : Prop :=
  (∀ (i : Instr) (s : State), (∃ t, exec i s = .next t) ∨
    (exec i s = .refused .closeOfEmptyBuffer ∧ i = .closeframe ∧ s.rxBuf = []) ∨
    (exec i s = .refused .overlappingCompletion ∧ ∃ m, i = .issue m ∧ bearing m = true ∧ s.pending ≠ none)) ∧
  ∀ (s : State) (x : Fault), step s ≠ .fault x

/-- R24, R25, R27: every step keeps the receive invariant. -/
def Obligations.StepKeepsReceiveInv : Prop :=
  ∀ s t : State, ReceiveInv s → step s = .next t → ReceiveInv t

/-- R37, R98: every step keeps the event invariant. -/
def Obligations.StepKeepsEventInv : Prop :=
  ∀ s t : State, ReceiveInv s → EventInv s → step s = .next t → EventInv t

/-- R191, R198: every step keeps the correlator's invariant. -/
def Obligations.StepKeepsCorrelatorInv : Prop :=
  ∀ s t : State, CorrelatorInv s → step s = .next t → CorrelatorInv t

/-- A handle leaves unresolved at most once (R203, R191). That none is forgotten is the model's choice: the list of all
handles made keeps those that are settled (log 17), and RESET and INIT keep the list (log 11). -/
def Obligations.HandlesSettleOnce : Prop :=
  ∀ s t : State, CorrelatorInv s → step s = .next t → s.handles.length ≤ t.handles.length ∧
    ∀ h < s.handles.length, s.handles[h]? ≠ some .unresolved → t.handles[h]? = s.handles[h]?

/-- R30, R242: no step changes a parameter. -/
def Obligations.ParametersNeverChange : Prop :=
  ∀ s t : State, step s = .next t → t.cfg = s.cfg

/-- What has been sent, consumed, emitted, published or logged stays; the streams only grow at their end, as the appends
of R41, R43 and R47 do. That RESET and INIT keep the histories, which R242 leaves to a model, and the host's records is the
model's choice (log 11). -/
def Obligations.StreamsOnlyGrow : Prop :=
  ∀ s t : State, step s = .next t →
    s.txStream <+: t.txStream ∧ s.rxStream <+: t.rxStream ∧ s.evOut <+: t.evOut ∧
    s.notifications <+: t.notifications ∧ s.log <+: t.log

/-- Who writes RX_STATE, RX_BUF, PENDING, the handles and ACTIVE: of the instructions, only the receiving ones, RESET and
INIT write the first two (R36, R241), only ISSUE, ONTARGETREACHED and CANCEL write PENDING and the handles (R36, R192,
R195, R197), only INIT writes ACTIVE (R200); of the turns that are no call and no encoded item, RX the first two, the
host's with a TargetReached PENDING and the handles, and a close or disconnect ACTIVE, which it never sets (log 14). That a
stop and a transport notification leave PENDING and the handles is the model's choice (93 U15; log 19). -/
def Obligations.WhoWritesWhat : Prop :=
  (∀ (i : Instr) (s t : State), exec i s = .next t →
    (i.format ≠ .wire → i.format ≠ .rsp → (∀ b, i ≠ .rxbyte b) → (∀ c, i ≠ .rxchunk c) → i ≠ .closeframe → i ≠ .reset → i ≠ .init →
      t.rxState = s.rxState ∧ t.rxBuf = s.rxBuf) ∧
    ((∀ m, i ≠ .issue m) → i ≠ .ontargetreached → i ≠ .cancel → t.pending = s.pending ∧ t.handles = s.handles) ∧
    (i ≠ .init → t.active = s.active)) ∧
  (∀ (s t : State) (turn : Turn) (ts : List Turn), s.agenda = turn :: ts → (∀ i, turn ≠ .call i) →
    (∀ f bs, turn ≠ .encoded f bs) → step s = .next t →
    (turn ≠ .rx → t.rxState = s.rxState ∧ t.rxBuf = s.rxBuf) ∧
    (turn ≠ .host ∨ s.evUnread.head? ≠ some .targetReached → t.pending = s.pending ∧ t.handles = s.handles) ∧
    (turn ≠ .transport .close → turn ≠ .transport .disconnect → t.active = s.active) ∧
    (t.active = true → s.active = true)) ∧
  ∀ (s t : State), s.agenda = [] → step s = .next t → t = s
end

