-- ==== Sys2Proof/Laws/Codec.lean ====
section
/-! SUPPORT. The equations of the codec's functions, one symbol at a time. -/

namespace Sys2Proof.Machine

variable (c : Config)

@[simp] theorem stuff_nil : stuff c [] = [] := rfl

@[simp] theorem stuff_cons (d : Byte) (p : List Byte) : stuff c (d :: p) = symbol c d ++ stuff c p := rfl

theorem reserved_iff (b : Byte) : reserved c b = true ↔ b = c.flag ∨ b = c.esc := by
  simp [reserved]

theorem symbol_reserved {d : Byte} (h : d = c.flag ∨ d = c.esc) : symbol c d = [c.esc, d ^^^ c.mask] := by
  simp [symbol, (reserved_iff c d).2 h]

theorem symbol_plain {d : Byte} (hf : d ≠ c.flag) (he : d ≠ c.esc) : symbol c d = [d] := by
  simp [symbol, reserved, hf, he]

@[simp] theorem unstuff_nil : unstuff c [] = .ok [] := rfl

@[simp] theorem consByte_ok (d : Byte) (p : List Byte) : consByte d (.ok p) = .ok (d :: p) := rfl

@[simp] theorem consByte_malformed (d : Byte) (k : Cause) : consByte d (.malformed k) = .malformed k := rfl

theorem consByte_eq_ok {d : Byte} {u : Unstuffed} {p : List Byte} (h : consByte d u = .ok p) :
    ∃ q, u = .ok q ∧ p = d :: q := by
  cases u with
  | ok q => exact ⟨q, rfl, by simpa using h.symm⟩
  | malformed k => simp at h

/-- A FLAG inside a body is found at once (R98). -/
theorem unstuff_flag (rest : List Byte) : unstuff c (c.flag :: rest) = .malformed .embeddedDelimiter := by
  cases rest <;> simp [unstuff]

/-- A plain byte is copied (R96). -/
theorem unstuff_plain {b : Byte} (hf : b ≠ c.flag) (he : b ≠ c.esc) (rest : List Byte) :
    unstuff c (b :: rest) = consByte b (unstuff c rest) := by
  cases rest <;> simp [unstuff, hf, he]

/-- A body that ends in ESC (R98). -/
theorem unstuff_dangling (h : c.flag ≠ c.esc) : unstuff c [c.esc] = .malformed .danglingEscape := by
  simp [unstuff, h.symm]

/-- What follows an ESC decides (R96). -/
theorem unstuff_escape (h : c.flag ≠ c.esc) (e : Byte) (rest : List Byte) :
    unstuff c (c.esc :: e :: rest) =
      if e = c.flag then .malformed .embeddedDelimiter
      else if c.strictUnstuff && !goodEscape c e then .malformed .badEscape
      else consByte (e ^^^ c.mask) (unstuff c rest) := by
  simp [unstuff, h.symm]

/-- UNSTUFF reads back the symbol that STUFF writes for one byte (R62). -/
theorem unstuff_symbol (h : c.codecValid) (d : Byte) (rest : List Byte) :
    unstuff c (symbol c d ++ rest) = consByte d (unstuff c rest) := by
  obtain ⟨hfe, -, hff, -, hef, -⟩ := h
  by_cases hd : d = c.flag ∨ d = c.esc
  · rw [symbol_reserved c hd, List.cons_append, List.cons_append, List.nil_append, unstuff_escape c hfe]
    rcases hd with rfl | rfl <;> simp [hff, hef, goodEscape]
  · rw [not_or] at hd
    rw [symbol_plain c hd.1 hd.2]
    exact unstuff_plain c hd.1 hd.2 rest

/-- An outcome `Ok` of a body that is not empty is not empty: every symbol yields one byte (R96). -/
theorem unstuff_ne_nil {body : List Byte} (h : body ≠ []) : unstuff c body ≠ .ok [] := by
  intro hu
  match body, h with
  | [b], _ =>
    simp only [unstuff] at hu
    split_ifs at hu
    simp at hu
  | b :: e :: rest, _ =>
    simp only [unstuff] at hu
    split_ifs at hu <;> simp_all <;> obtain ⟨q, -, hq⟩ := consByte_eq_ok hu <;> simp at hq

/-- UNSTUFF reads a stuffed part back and goes on with the rest (R94, R96). -/
theorem unstuff_stuff_append (h : c.codecValid) (p rest : List Byte) :
    unstuff c (stuff c p ++ rest) = p.foldr consByte (unstuff c rest) := by
  induction p with
  | nil => rfl
  | cons d p ih => rw [stuff_cons, List.append_assoc, unstuff_symbol c h, ih, List.foldr_cons]

theorem foldr_consByte_ok (p q : List Byte) : p.foldr consByte (.ok q) = .ok (p ++ q) := by
  induction p <;> simp_all

theorem foldr_consByte_malformed (p : List Byte) (k : Cause) :
    p.foldr consByte (.malformed k) = .malformed k := by
  induction p <;> simp_all

@[simp] theorem dropFlags_nil : dropFlags c [] = [] := rfl

@[simp] theorem dropFlags_flag (w : List Byte) : dropFlags c (c.flag :: w) = dropFlags c w := by
  simp [dropFlags]

theorem dropFlags_plain {b : Byte} (h : b ≠ c.flag) (w : List Byte) : dropFlags c (b :: w) = b :: w := by
  simp [dropFlags, h]

end Sys2Proof.Machine
end

