-- ==== Sys2Proof/Laws/State.lean ====
section
/-! SUPPORT. One lemma per field per named update of the state, so that no later proof unfolds a record update. -/

namespace Sys2Proof.Machine

variable (s : State)

@[simp] theorem appendBuf_cfg (b : Byte) : (appendBuf b s).cfg = s.cfg := rfl
@[simp] theorem appendBuf_rxState (b : Byte) : (appendBuf b s).rxState = s.rxState := rfl
@[simp] theorem appendBuf_rxBuf (b : Byte) : (appendBuf b s).rxBuf = s.rxBuf ++ [b] := rfl
@[simp] theorem appendBuf_cmdIn (b : Byte) : (appendBuf b s).cmdIn = s.cmdIn := rfl
@[simp] theorem appendBuf_rxIn (b : Byte) : (appendBuf b s).rxIn = s.rxIn := rfl
@[simp] theorem appendBuf_evUnread (b : Byte) : (appendBuf b s).evUnread = s.evUnread := rfl
@[simp] theorem appendBuf_txStream (b : Byte) : (appendBuf b s).txStream = s.txStream := rfl
@[simp] theorem appendBuf_rxStream (b : Byte) : (appendBuf b s).rxStream = s.rxStream := rfl
@[simp] theorem appendBuf_evOut (b : Byte) : (appendBuf b s).evOut = s.evOut := rfl
@[simp] theorem appendBuf_pending (b : Byte) : (appendBuf b s).pending = s.pending := rfl
@[simp] theorem appendBuf_handles (b : Byte) : (appendBuf b s).handles = s.handles := rfl
@[simp] theorem appendBuf_active (b : Byte) : (appendBuf b s).active = s.active := rfl
@[simp] theorem appendBuf_initCall (b : Byte) : (appendBuf b s).initCall = s.initCall := rfl
@[simp] theorem appendBuf_stopCalls (b : Byte) : (appendBuf b s).stopCalls = s.stopCalls := rfl
@[simp] theorem appendBuf_notifications (b : Byte) : (appendBuf b s).notifications = s.notifications := rfl
@[simp] theorem appendBuf_log (b : Byte) : (appendBuf b s).log = s.log := rfl
@[simp] theorem appendBuf_writeFails (b : Byte) : (appendBuf b s).writeFails = s.writeFails := rfl
@[simp] theorem appendBuf_result (b : Byte) : (appendBuf b s).result = s.result := rfl
@[simp] theorem appendBuf_agenda (b : Byte) : (appendBuf b s).agenda = s.agenda := rfl
@[simp] theorem appendBuf_freeCount (b : Byte) : (appendBuf b s).freeCount = s.freeCount := rfl

@[simp] theorem clearBuf_cfg : (clearBuf s).cfg = s.cfg := rfl
@[simp] theorem clearBuf_rxState : (clearBuf s).rxState = s.rxState := rfl
@[simp] theorem clearBuf_rxBuf : (clearBuf s).rxBuf = [] := rfl
@[simp] theorem clearBuf_cmdIn : (clearBuf s).cmdIn = s.cmdIn := rfl
@[simp] theorem clearBuf_rxIn : (clearBuf s).rxIn = s.rxIn := rfl
@[simp] theorem clearBuf_evUnread : (clearBuf s).evUnread = s.evUnread := rfl
@[simp] theorem clearBuf_txStream : (clearBuf s).txStream = s.txStream := rfl
@[simp] theorem clearBuf_rxStream : (clearBuf s).rxStream = s.rxStream := rfl
@[simp] theorem clearBuf_evOut : (clearBuf s).evOut = s.evOut := rfl
@[simp] theorem clearBuf_pending : (clearBuf s).pending = s.pending := rfl
@[simp] theorem clearBuf_handles : (clearBuf s).handles = s.handles := rfl
@[simp] theorem clearBuf_active : (clearBuf s).active = s.active := rfl
@[simp] theorem clearBuf_initCall : (clearBuf s).initCall = s.initCall := rfl
@[simp] theorem clearBuf_stopCalls : (clearBuf s).stopCalls = s.stopCalls := rfl
@[simp] theorem clearBuf_notifications : (clearBuf s).notifications = s.notifications := rfl
@[simp] theorem clearBuf_log : (clearBuf s).log = s.log := rfl
@[simp] theorem clearBuf_writeFails : (clearBuf s).writeFails = s.writeFails := rfl
@[simp] theorem clearBuf_result : (clearBuf s).result = s.result := rfl
@[simp] theorem clearBuf_agenda : (clearBuf s).agenda = s.agenda := rfl
@[simp] theorem clearBuf_freeCount : (clearBuf s).freeCount = s.freeCount := rfl

@[simp] theorem setRxState_cfg (r : RxState) : (setRxState r s).cfg = s.cfg := rfl
@[simp] theorem setRxState_rxState (r : RxState) : (setRxState r s).rxState = r := rfl
@[simp] theorem setRxState_rxBuf (r : RxState) : (setRxState r s).rxBuf = s.rxBuf := rfl
@[simp] theorem setRxState_cmdIn (r : RxState) : (setRxState r s).cmdIn = s.cmdIn := rfl
@[simp] theorem setRxState_rxIn (r : RxState) : (setRxState r s).rxIn = s.rxIn := rfl
@[simp] theorem setRxState_evUnread (r : RxState) : (setRxState r s).evUnread = s.evUnread := rfl
@[simp] theorem setRxState_txStream (r : RxState) : (setRxState r s).txStream = s.txStream := rfl
@[simp] theorem setRxState_rxStream (r : RxState) : (setRxState r s).rxStream = s.rxStream := rfl
@[simp] theorem setRxState_evOut (r : RxState) : (setRxState r s).evOut = s.evOut := rfl
@[simp] theorem setRxState_pending (r : RxState) : (setRxState r s).pending = s.pending := rfl
@[simp] theorem setRxState_handles (r : RxState) : (setRxState r s).handles = s.handles := rfl
@[simp] theorem setRxState_active (r : RxState) : (setRxState r s).active = s.active := rfl
@[simp] theorem setRxState_initCall (r : RxState) : (setRxState r s).initCall = s.initCall := rfl
@[simp] theorem setRxState_stopCalls (r : RxState) : (setRxState r s).stopCalls = s.stopCalls := rfl
@[simp] theorem setRxState_notifications (r : RxState) : (setRxState r s).notifications = s.notifications := rfl
@[simp] theorem setRxState_log (r : RxState) : (setRxState r s).log = s.log := rfl
@[simp] theorem setRxState_writeFails (r : RxState) : (setRxState r s).writeFails = s.writeFails := rfl
@[simp] theorem setRxState_result (r : RxState) : (setRxState r s).result = s.result := rfl
@[simp] theorem setRxState_agenda (r : RxState) : (setRxState r s).agenda = s.agenda := rfl
@[simp] theorem setRxState_freeCount (r : RxState) : (setRxState r s).freeCount = s.freeCount := rfl

@[simp] theorem emit_cfg (e : Event) : (emit e s).cfg = s.cfg := rfl
@[simp] theorem emit_rxState (e : Event) : (emit e s).rxState = s.rxState := rfl
@[simp] theorem emit_rxBuf (e : Event) : (emit e s).rxBuf = s.rxBuf := rfl
@[simp] theorem emit_cmdIn (e : Event) : (emit e s).cmdIn = s.cmdIn := rfl
@[simp] theorem emit_rxIn (e : Event) : (emit e s).rxIn = s.rxIn := rfl
@[simp] theorem emit_evUnread (e : Event) : (emit e s).evUnread = s.evUnread ++ [e] := rfl
@[simp] theorem emit_txStream (e : Event) : (emit e s).txStream = s.txStream := rfl
@[simp] theorem emit_rxStream (e : Event) : (emit e s).rxStream = s.rxStream := rfl
@[simp] theorem emit_evOut (e : Event) : (emit e s).evOut = s.evOut ++ [e] := rfl
@[simp] theorem emit_pending (e : Event) : (emit e s).pending = s.pending := rfl
@[simp] theorem emit_handles (e : Event) : (emit e s).handles = s.handles := rfl
@[simp] theorem emit_active (e : Event) : (emit e s).active = s.active := rfl
@[simp] theorem emit_initCall (e : Event) : (emit e s).initCall = s.initCall := rfl
@[simp] theorem emit_stopCalls (e : Event) : (emit e s).stopCalls = s.stopCalls := rfl
@[simp] theorem emit_notifications (e : Event) : (emit e s).notifications = s.notifications := rfl
@[simp] theorem emit_log (e : Event) : (emit e s).log = s.log := rfl
@[simp] theorem emit_writeFails (e : Event) : (emit e s).writeFails = s.writeFails := rfl
@[simp] theorem emit_result (e : Event) : (emit e s).result = s.result := rfl
@[simp] theorem emit_agenda (e : Event) : (emit e s).agenda = s.agenda := rfl
@[simp] theorem emit_freeCount (e : Event) : (emit e s).freeCount = s.freeCount := rfl

@[simp] theorem txEmit_cfg (bs : List Byte) : (txEmit bs s).cfg = s.cfg := rfl
@[simp] theorem txEmit_rxState (bs : List Byte) : (txEmit bs s).rxState = s.rxState := rfl
@[simp] theorem txEmit_rxBuf (bs : List Byte) : (txEmit bs s).rxBuf = s.rxBuf := rfl
@[simp] theorem txEmit_cmdIn (bs : List Byte) : (txEmit bs s).cmdIn = s.cmdIn := rfl
@[simp] theorem txEmit_rxIn (bs : List Byte) : (txEmit bs s).rxIn = s.rxIn := rfl
@[simp] theorem txEmit_evUnread (bs : List Byte) : (txEmit bs s).evUnread = s.evUnread := rfl
@[simp] theorem txEmit_txStream (bs : List Byte) : (txEmit bs s).txStream = s.txStream ++ bs := rfl
@[simp] theorem txEmit_rxStream (bs : List Byte) : (txEmit bs s).rxStream = s.rxStream := rfl
@[simp] theorem txEmit_evOut (bs : List Byte) : (txEmit bs s).evOut = s.evOut := rfl
@[simp] theorem txEmit_pending (bs : List Byte) : (txEmit bs s).pending = s.pending := rfl
@[simp] theorem txEmit_handles (bs : List Byte) : (txEmit bs s).handles = s.handles := rfl
@[simp] theorem txEmit_active (bs : List Byte) : (txEmit bs s).active = s.active := rfl
@[simp] theorem txEmit_initCall (bs : List Byte) : (txEmit bs s).initCall = s.initCall := rfl
@[simp] theorem txEmit_stopCalls (bs : List Byte) : (txEmit bs s).stopCalls = s.stopCalls := rfl
@[simp] theorem txEmit_notifications (bs : List Byte) : (txEmit bs s).notifications = s.notifications := rfl
@[simp] theorem txEmit_log (bs : List Byte) : (txEmit bs s).log = s.log := rfl
@[simp] theorem txEmit_writeFails (bs : List Byte) : (txEmit bs s).writeFails = s.writeFails := rfl
@[simp] theorem txEmit_result (bs : List Byte) : (txEmit bs s).result = s.result := rfl
@[simp] theorem txEmit_agenda (bs : List Byte) : (txEmit bs s).agenda = s.agenda := rfl
@[simp] theorem txEmit_freeCount (bs : List Byte) : (txEmit bs s).freeCount = s.freeCount := rfl

@[simp] theorem reportWrite_cfg : (reportWrite s).cfg = s.cfg := rfl
@[simp] theorem reportWrite_rxState : (reportWrite s).rxState = s.rxState := rfl
@[simp] theorem reportWrite_rxBuf : (reportWrite s).rxBuf = s.rxBuf := rfl
@[simp] theorem reportWrite_cmdIn : (reportWrite s).cmdIn = s.cmdIn := rfl
@[simp] theorem reportWrite_rxIn : (reportWrite s).rxIn = s.rxIn := rfl
@[simp] theorem reportWrite_evUnread : (reportWrite s).evUnread = s.evUnread := rfl
@[simp] theorem reportWrite_txStream : (reportWrite s).txStream = s.txStream := rfl
@[simp] theorem reportWrite_rxStream : (reportWrite s).rxStream = s.rxStream := rfl
@[simp] theorem reportWrite_evOut : (reportWrite s).evOut = s.evOut := rfl
@[simp] theorem reportWrite_pending : (reportWrite s).pending = s.pending := rfl
@[simp] theorem reportWrite_handles : (reportWrite s).handles = s.handles := rfl
@[simp] theorem reportWrite_active : (reportWrite s).active = s.active := rfl
@[simp] theorem reportWrite_initCall : (reportWrite s).initCall = s.initCall := rfl
@[simp] theorem reportWrite_stopCalls : (reportWrite s).stopCalls = s.stopCalls := rfl
@[simp] theorem reportWrite_notifications : (reportWrite s).notifications = s.notifications := rfl
@[simp] theorem reportWrite_log : (reportWrite s).log = s.log := rfl
@[simp] theorem reportWrite_writeFails : (reportWrite s).writeFails = s.writeFails := rfl
@[simp] theorem reportWrite_result : (reportWrite s).result = s.result := rfl
@[simp] theorem reportWrite_agenda : (reportWrite s).agenda = if s.writeFails then agendaWithError s.freeCount s.agenda else s.agenda := rfl
@[simp] theorem reportWrite_freeCount : (reportWrite s).freeCount = if s.writeFails then s.freeCount + 1 else s.freeCount := rfl

@[simp] theorem consumeByte_cfg (b : Byte) : (consumeByte b s).cfg = s.cfg := rfl
@[simp] theorem consumeByte_rxState (b : Byte) : (consumeByte b s).rxState = s.rxState := rfl
@[simp] theorem consumeByte_rxBuf (b : Byte) : (consumeByte b s).rxBuf = s.rxBuf := rfl
@[simp] theorem consumeByte_cmdIn (b : Byte) : (consumeByte b s).cmdIn = s.cmdIn := rfl
@[simp] theorem consumeByte_rxIn (b : Byte) : (consumeByte b s).rxIn = s.rxIn := rfl
@[simp] theorem consumeByte_evUnread (b : Byte) : (consumeByte b s).evUnread = s.evUnread := rfl
@[simp] theorem consumeByte_txStream (b : Byte) : (consumeByte b s).txStream = s.txStream := rfl
@[simp] theorem consumeByte_rxStream (b : Byte) : (consumeByte b s).rxStream = s.rxStream ++ [b] := rfl
@[simp] theorem consumeByte_evOut (b : Byte) : (consumeByte b s).evOut = s.evOut := rfl
@[simp] theorem consumeByte_pending (b : Byte) : (consumeByte b s).pending = s.pending := rfl
@[simp] theorem consumeByte_handles (b : Byte) : (consumeByte b s).handles = s.handles := rfl
@[simp] theorem consumeByte_active (b : Byte) : (consumeByte b s).active = s.active := rfl
@[simp] theorem consumeByte_initCall (b : Byte) : (consumeByte b s).initCall = s.initCall := rfl
@[simp] theorem consumeByte_stopCalls (b : Byte) : (consumeByte b s).stopCalls = s.stopCalls := rfl
@[simp] theorem consumeByte_notifications (b : Byte) : (consumeByte b s).notifications = s.notifications := rfl
@[simp] theorem consumeByte_log (b : Byte) : (consumeByte b s).log = s.log := rfl
@[simp] theorem consumeByte_writeFails (b : Byte) : (consumeByte b s).writeFails = s.writeFails := rfl
@[simp] theorem consumeByte_result (b : Byte) : (consumeByte b s).result = s.result := rfl
@[simp] theorem consumeByte_agenda (b : Byte) : (consumeByte b s).agenda = s.agenda := rfl
@[simp] theorem consumeByte_freeCount (b : Byte) : (consumeByte b s).freeCount = s.freeCount := rfl

@[simp] theorem setResult_cfg (r : Result) : (setResult r s).cfg = s.cfg := rfl
@[simp] theorem setResult_rxState (r : Result) : (setResult r s).rxState = s.rxState := rfl
@[simp] theorem setResult_rxBuf (r : Result) : (setResult r s).rxBuf = s.rxBuf := rfl
@[simp] theorem setResult_cmdIn (r : Result) : (setResult r s).cmdIn = s.cmdIn := rfl
@[simp] theorem setResult_rxIn (r : Result) : (setResult r s).rxIn = s.rxIn := rfl
@[simp] theorem setResult_evUnread (r : Result) : (setResult r s).evUnread = s.evUnread := rfl
@[simp] theorem setResult_txStream (r : Result) : (setResult r s).txStream = s.txStream := rfl
@[simp] theorem setResult_rxStream (r : Result) : (setResult r s).rxStream = s.rxStream := rfl
@[simp] theorem setResult_evOut (r : Result) : (setResult r s).evOut = s.evOut := rfl
@[simp] theorem setResult_pending (r : Result) : (setResult r s).pending = s.pending := rfl
@[simp] theorem setResult_handles (r : Result) : (setResult r s).handles = s.handles := rfl
@[simp] theorem setResult_active (r : Result) : (setResult r s).active = s.active := rfl
@[simp] theorem setResult_initCall (r : Result) : (setResult r s).initCall = s.initCall := rfl
@[simp] theorem setResult_stopCalls (r : Result) : (setResult r s).stopCalls = s.stopCalls := rfl
@[simp] theorem setResult_notifications (r : Result) : (setResult r s).notifications = s.notifications := rfl
@[simp] theorem setResult_log (r : Result) : (setResult r s).log = s.log := rfl
@[simp] theorem setResult_writeFails (r : Result) : (setResult r s).writeFails = s.writeFails := rfl
@[simp] theorem setResult_result (r : Result) : (setResult r s).result = r := rfl
@[simp] theorem setResult_agenda (r : Result) : (setResult r s).agenda = s.agenda := rfl
@[simp] theorem setResult_freeCount (r : Result) : (setResult r s).freeCount = s.freeCount := rfl

@[simp] theorem publish_cfg (n : Notification) : (publish n s).cfg = s.cfg := rfl
@[simp] theorem publish_rxState (n : Notification) : (publish n s).rxState = s.rxState := rfl
@[simp] theorem publish_rxBuf (n : Notification) : (publish n s).rxBuf = s.rxBuf := rfl
@[simp] theorem publish_cmdIn (n : Notification) : (publish n s).cmdIn = s.cmdIn := rfl
@[simp] theorem publish_rxIn (n : Notification) : (publish n s).rxIn = s.rxIn := rfl
@[simp] theorem publish_evUnread (n : Notification) : (publish n s).evUnread = s.evUnread := rfl
@[simp] theorem publish_txStream (n : Notification) : (publish n s).txStream = s.txStream := rfl
@[simp] theorem publish_rxStream (n : Notification) : (publish n s).rxStream = s.rxStream := rfl
@[simp] theorem publish_evOut (n : Notification) : (publish n s).evOut = s.evOut := rfl
@[simp] theorem publish_pending (n : Notification) : (publish n s).pending = s.pending := rfl
@[simp] theorem publish_handles (n : Notification) : (publish n s).handles = s.handles := rfl
@[simp] theorem publish_active (n : Notification) : (publish n s).active = s.active := rfl
@[simp] theorem publish_initCall (n : Notification) : (publish n s).initCall = s.initCall := rfl
@[simp] theorem publish_stopCalls (n : Notification) : (publish n s).stopCalls = s.stopCalls := rfl
@[simp] theorem publish_notifications (n : Notification) : (publish n s).notifications = s.notifications ++ [n] := rfl
@[simp] theorem publish_log (n : Notification) : (publish n s).log = s.log := rfl
@[simp] theorem publish_writeFails (n : Notification) : (publish n s).writeFails = s.writeFails := rfl
@[simp] theorem publish_result (n : Notification) : (publish n s).result = s.result := rfl
@[simp] theorem publish_agenda (n : Notification) : (publish n s).agenda = s.agenda := rfl
@[simp] theorem publish_freeCount (n : Notification) : (publish n s).freeCount = s.freeCount := rfl

@[simp] theorem logEvent_cfg (e : Event) : (logEvent e s).cfg = s.cfg := rfl
@[simp] theorem logEvent_rxState (e : Event) : (logEvent e s).rxState = s.rxState := rfl
@[simp] theorem logEvent_rxBuf (e : Event) : (logEvent e s).rxBuf = s.rxBuf := rfl
@[simp] theorem logEvent_cmdIn (e : Event) : (logEvent e s).cmdIn = s.cmdIn := rfl
@[simp] theorem logEvent_rxIn (e : Event) : (logEvent e s).rxIn = s.rxIn := rfl
@[simp] theorem logEvent_evUnread (e : Event) : (logEvent e s).evUnread = s.evUnread := rfl
@[simp] theorem logEvent_txStream (e : Event) : (logEvent e s).txStream = s.txStream := rfl
@[simp] theorem logEvent_rxStream (e : Event) : (logEvent e s).rxStream = s.rxStream := rfl
@[simp] theorem logEvent_evOut (e : Event) : (logEvent e s).evOut = s.evOut := rfl
@[simp] theorem logEvent_pending (e : Event) : (logEvent e s).pending = s.pending := rfl
@[simp] theorem logEvent_handles (e : Event) : (logEvent e s).handles = s.handles := rfl
@[simp] theorem logEvent_active (e : Event) : (logEvent e s).active = s.active := rfl
@[simp] theorem logEvent_initCall (e : Event) : (logEvent e s).initCall = s.initCall := rfl
@[simp] theorem logEvent_stopCalls (e : Event) : (logEvent e s).stopCalls = s.stopCalls := rfl
@[simp] theorem logEvent_notifications (e : Event) : (logEvent e s).notifications = s.notifications := rfl
@[simp] theorem logEvent_log (e : Event) : (logEvent e s).log = s.log ++ [e] := rfl
@[simp] theorem logEvent_writeFails (e : Event) : (logEvent e s).writeFails = s.writeFails := rfl
@[simp] theorem logEvent_result (e : Event) : (logEvent e s).result = s.result := rfl
@[simp] theorem logEvent_agenda (e : Event) : (logEvent e s).agenda = s.agenda := rfl
@[simp] theorem logEvent_freeCount (e : Event) : (logEvent e s).freeCount = s.freeCount := rfl

@[simp] theorem classify_cfg (f : List Byte) : (classify f s).cfg = s.cfg := rfl
@[simp] theorem classify_rxState (f : List Byte) : (classify f s).rxState = s.rxState := rfl
@[simp] theorem classify_rxBuf (f : List Byte) : (classify f s).rxBuf = s.rxBuf := rfl
@[simp] theorem classify_cmdIn (f : List Byte) : (classify f s).cmdIn = s.cmdIn := rfl
@[simp] theorem classify_rxIn (f : List Byte) : (classify f s).rxIn = s.rxIn := rfl
@[simp] theorem classify_evUnread (f : List Byte) : (classify f s).evUnread = s.evUnread ++ [frameEvent s.cfg f] := rfl
@[simp] theorem classify_txStream (f : List Byte) : (classify f s).txStream = s.txStream := rfl
@[simp] theorem classify_rxStream (f : List Byte) : (classify f s).rxStream = s.rxStream := rfl
@[simp] theorem classify_evOut (f : List Byte) : (classify f s).evOut = s.evOut ++ [frameEvent s.cfg f] := rfl
@[simp] theorem classify_pending (f : List Byte) : (classify f s).pending = s.pending := rfl
@[simp] theorem classify_handles (f : List Byte) : (classify f s).handles = s.handles := rfl
@[simp] theorem classify_active (f : List Byte) : (classify f s).active = s.active := rfl
@[simp] theorem classify_initCall (f : List Byte) : (classify f s).initCall = s.initCall := rfl
@[simp] theorem classify_stopCalls (f : List Byte) : (classify f s).stopCalls = s.stopCalls := rfl
@[simp] theorem classify_notifications (f : List Byte) : (classify f s).notifications = s.notifications := rfl
@[simp] theorem classify_log (f : List Byte) : (classify f s).log = s.log := rfl
@[simp] theorem classify_writeFails (f : List Byte) : (classify f s).writeFails = s.writeFails := rfl
@[simp] theorem classify_result (f : List Byte) : (classify f s).result = s.result := rfl
@[simp] theorem classify_agenda (f : List Byte) : (classify f s).agenda = s.agenda := rfl
@[simp] theorem classify_freeCount (f : List Byte) : (classify f s).freeCount = s.freeCount := rfl

@[simp] theorem raiseMalformed_cfg (k : Cause) : (raiseMalformed k s).cfg = s.cfg := rfl
@[simp] theorem raiseMalformed_rxState (k : Cause) : (raiseMalformed k s).rxState = stateAfterMalformed k := rfl
@[simp] theorem raiseMalformed_rxBuf (k : Cause) : (raiseMalformed k s).rxBuf = [] := rfl
@[simp] theorem raiseMalformed_cmdIn (k : Cause) : (raiseMalformed k s).cmdIn = s.cmdIn := rfl
@[simp] theorem raiseMalformed_rxIn (k : Cause) : (raiseMalformed k s).rxIn = s.rxIn := rfl
@[simp] theorem raiseMalformed_evUnread (k : Cause) : (raiseMalformed k s).evUnread = s.evUnread ++ [.malformed k] := rfl
@[simp] theorem raiseMalformed_txStream (k : Cause) : (raiseMalformed k s).txStream = s.txStream := rfl
@[simp] theorem raiseMalformed_rxStream (k : Cause) : (raiseMalformed k s).rxStream = s.rxStream := rfl
@[simp] theorem raiseMalformed_evOut (k : Cause) : (raiseMalformed k s).evOut = s.evOut ++ [.malformed k] := rfl
@[simp] theorem raiseMalformed_pending (k : Cause) : (raiseMalformed k s).pending = s.pending := rfl
@[simp] theorem raiseMalformed_handles (k : Cause) : (raiseMalformed k s).handles = s.handles := rfl
@[simp] theorem raiseMalformed_active (k : Cause) : (raiseMalformed k s).active = s.active := rfl
@[simp] theorem raiseMalformed_initCall (k : Cause) : (raiseMalformed k s).initCall = s.initCall := rfl
@[simp] theorem raiseMalformed_stopCalls (k : Cause) : (raiseMalformed k s).stopCalls = s.stopCalls := rfl
@[simp] theorem raiseMalformed_notifications (k : Cause) : (raiseMalformed k s).notifications = s.notifications := rfl
@[simp] theorem raiseMalformed_log (k : Cause) : (raiseMalformed k s).log = s.log := rfl
@[simp] theorem raiseMalformed_writeFails (k : Cause) : (raiseMalformed k s).writeFails = s.writeFails := rfl
@[simp] theorem raiseMalformed_result (k : Cause) : (raiseMalformed k s).result = s.result := rfl
@[simp] theorem raiseMalformed_agenda (k : Cause) : (raiseMalformed k s).agenda = s.agenda := rfl
@[simp] theorem raiseMalformed_freeCount (k : Cause) : (raiseMalformed k s).freeCount = s.freeCount := rfl

@[simp] theorem txCmd_cfg (c : Cmd) : (txCmd c s).cfg = s.cfg := rfl
@[simp] theorem txCmd_rxState (c : Cmd) : (txCmd c s).rxState = s.rxState := rfl
@[simp] theorem txCmd_rxBuf (c : Cmd) : (txCmd c s).rxBuf = s.rxBuf := rfl
@[simp] theorem txCmd_cmdIn (c : Cmd) : (txCmd c s).cmdIn = s.cmdIn := rfl
@[simp] theorem txCmd_rxIn (c : Cmd) : (txCmd c s).rxIn = s.rxIn := rfl
@[simp] theorem txCmd_evUnread (c : Cmd) : (txCmd c s).evUnread = s.evUnread := rfl
@[simp] theorem txCmd_txStream (c : Cmd) : (txCmd c s).txStream = s.txStream ++ frameEncode s.cfg (cmdEncode s.cfg c) := rfl
@[simp] theorem txCmd_rxStream (c : Cmd) : (txCmd c s).rxStream = s.rxStream := rfl
@[simp] theorem txCmd_evOut (c : Cmd) : (txCmd c s).evOut = s.evOut := rfl
@[simp] theorem txCmd_pending (c : Cmd) : (txCmd c s).pending = s.pending := rfl
@[simp] theorem txCmd_handles (c : Cmd) : (txCmd c s).handles = s.handles := rfl
@[simp] theorem txCmd_active (c : Cmd) : (txCmd c s).active = s.active := rfl
@[simp] theorem txCmd_initCall (c : Cmd) : (txCmd c s).initCall = s.initCall := rfl
@[simp] theorem txCmd_stopCalls (c : Cmd) : (txCmd c s).stopCalls = s.stopCalls := rfl
@[simp] theorem txCmd_notifications (c : Cmd) : (txCmd c s).notifications = s.notifications := rfl
@[simp] theorem txCmd_log (c : Cmd) : (txCmd c s).log = s.log := rfl
@[simp] theorem txCmd_writeFails (c : Cmd) : (txCmd c s).writeFails = s.writeFails := rfl
@[simp] theorem txCmd_result (c : Cmd) : (txCmd c s).result = s.result := rfl
@[simp] theorem txCmd_agenda (c : Cmd) : (txCmd c s).agenda = if s.writeFails then agendaWithError s.freeCount s.agenda else s.agenda := rfl
@[simp] theorem txCmd_freeCount (c : Cmd) : (txCmd c s).freeCount = if s.writeFails then s.freeCount + 1 else s.freeCount := rfl

@[simp] theorem resetBlock_cfg : (resetBlock s).cfg = s.cfg := rfl
@[simp] theorem resetBlock_rxState : (resetBlock s).rxState = .awaitingDelimiter := rfl
@[simp] theorem resetBlock_rxBuf : (resetBlock s).rxBuf = [] := rfl
@[simp] theorem resetBlock_cmdIn : (resetBlock s).cmdIn = [] := rfl
@[simp] theorem resetBlock_rxIn : (resetBlock s).rxIn = [] := rfl
@[simp] theorem resetBlock_evUnread : (resetBlock s).evUnread = [] := rfl
@[simp] theorem resetBlock_txStream : (resetBlock s).txStream = s.txStream := rfl
@[simp] theorem resetBlock_rxStream : (resetBlock s).rxStream = s.rxStream := rfl
@[simp] theorem resetBlock_evOut : (resetBlock s).evOut = s.evOut := rfl
@[simp] theorem resetBlock_pending : (resetBlock s).pending = s.pending := rfl
@[simp] theorem resetBlock_handles : (resetBlock s).handles = s.handles := rfl
@[simp] theorem resetBlock_active : (resetBlock s).active = s.active := rfl
@[simp] theorem resetBlock_initCall : (resetBlock s).initCall = s.initCall := rfl
@[simp] theorem resetBlock_stopCalls : (resetBlock s).stopCalls = s.stopCalls := rfl
@[simp] theorem resetBlock_notifications : (resetBlock s).notifications = s.notifications := rfl
@[simp] theorem resetBlock_log : (resetBlock s).log = s.log := rfl
@[simp] theorem resetBlock_writeFails : (resetBlock s).writeFails = s.writeFails := rfl
@[simp] theorem resetBlock_result : (resetBlock s).result = s.result := rfl
@[simp] theorem resetBlock_agenda : (resetBlock s).agenda = s.agenda := rfl
@[simp] theorem resetBlock_freeCount : (resetBlock s).freeCount = s.freeCount := rfl

@[simp] theorem clearPorts_cfg : (clearPorts s).cfg = s.cfg := rfl
@[simp] theorem clearPorts_rxState : (clearPorts s).rxState = s.rxState := rfl
@[simp] theorem clearPorts_rxBuf : (clearPorts s).rxBuf = s.rxBuf := rfl
@[simp] theorem clearPorts_cmdIn : (clearPorts s).cmdIn = [] := rfl
@[simp] theorem clearPorts_rxIn : (clearPorts s).rxIn = [] := rfl
@[simp] theorem clearPorts_evUnread : (clearPorts s).evUnread = [] := rfl
@[simp] theorem clearPorts_txStream : (clearPorts s).txStream = s.txStream := rfl
@[simp] theorem clearPorts_rxStream : (clearPorts s).rxStream = s.rxStream := rfl
@[simp] theorem clearPorts_evOut : (clearPorts s).evOut = s.evOut := rfl
@[simp] theorem clearPorts_pending : (clearPorts s).pending = s.pending := rfl
@[simp] theorem clearPorts_handles : (clearPorts s).handles = s.handles := rfl
@[simp] theorem clearPorts_active : (clearPorts s).active = s.active := rfl
@[simp] theorem clearPorts_initCall : (clearPorts s).initCall = s.initCall := rfl
@[simp] theorem clearPorts_stopCalls : (clearPorts s).stopCalls = s.stopCalls := rfl
@[simp] theorem clearPorts_notifications : (clearPorts s).notifications = s.notifications := rfl
@[simp] theorem clearPorts_log : (clearPorts s).log = s.log := rfl
@[simp] theorem clearPorts_writeFails : (clearPorts s).writeFails = s.writeFails := rfl
@[simp] theorem clearPorts_result : (clearPorts s).result = s.result := rfl
@[simp] theorem clearPorts_agenda : (clearPorts s).agenda = s.agenda := rfl
@[simp] theorem clearPorts_freeCount : (clearPorts s).freeCount = s.freeCount := rfl

@[simp] theorem openHandle_cfg : (openHandle s).cfg = s.cfg := rfl
@[simp] theorem openHandle_rxState : (openHandle s).rxState = s.rxState := rfl
@[simp] theorem openHandle_rxBuf : (openHandle s).rxBuf = s.rxBuf := rfl
@[simp] theorem openHandle_cmdIn : (openHandle s).cmdIn = s.cmdIn := rfl
@[simp] theorem openHandle_rxIn : (openHandle s).rxIn = s.rxIn := rfl
@[simp] theorem openHandle_evUnread : (openHandle s).evUnread = s.evUnread := rfl
@[simp] theorem openHandle_txStream : (openHandle s).txStream = s.txStream := rfl
@[simp] theorem openHandle_rxStream : (openHandle s).rxStream = s.rxStream := rfl
@[simp] theorem openHandle_evOut : (openHandle s).evOut = s.evOut := rfl
@[simp] theorem openHandle_pending : (openHandle s).pending = some s.handles.length := rfl
@[simp] theorem openHandle_handles : (openHandle s).handles = s.handles ++ [.unresolved] := rfl
@[simp] theorem openHandle_active : (openHandle s).active = s.active := rfl
@[simp] theorem openHandle_initCall : (openHandle s).initCall = s.initCall := rfl
@[simp] theorem openHandle_stopCalls : (openHandle s).stopCalls = s.stopCalls := rfl
@[simp] theorem openHandle_notifications : (openHandle s).notifications = s.notifications := rfl
@[simp] theorem openHandle_log : (openHandle s).log = s.log := rfl
@[simp] theorem openHandle_writeFails : (openHandle s).writeFails = s.writeFails := rfl
@[simp] theorem openHandle_result : (openHandle s).result = s.result := rfl
@[simp] theorem openHandle_agenda : (openHandle s).agenda = s.agenda := rfl
@[simp] theorem openHandle_freeCount : (openHandle s).freeCount = s.freeCount := rfl

@[simp] theorem startStopCall_cfg (d : Nat) : (startStopCall d s).cfg = s.cfg := rfl
@[simp] theorem startStopCall_rxState (d : Nat) : (startStopCall d s).rxState = s.rxState := rfl
@[simp] theorem startStopCall_rxBuf (d : Nat) : (startStopCall d s).rxBuf = s.rxBuf := rfl
@[simp] theorem startStopCall_cmdIn (d : Nat) : (startStopCall d s).cmdIn = s.cmdIn := rfl
@[simp] theorem startStopCall_rxIn (d : Nat) : (startStopCall d s).rxIn = s.rxIn := rfl
@[simp] theorem startStopCall_evUnread (d : Nat) : (startStopCall d s).evUnread = s.evUnread := rfl
@[simp] theorem startStopCall_txStream (d : Nat) : (startStopCall d s).txStream = s.txStream := rfl
@[simp] theorem startStopCall_rxStream (d : Nat) : (startStopCall d s).rxStream = s.rxStream := rfl
@[simp] theorem startStopCall_evOut (d : Nat) : (startStopCall d s).evOut = s.evOut := rfl
@[simp] theorem startStopCall_pending (d : Nat) : (startStopCall d s).pending = s.pending := rfl
@[simp] theorem startStopCall_handles (d : Nat) : (startStopCall d s).handles = s.handles := rfl
@[simp] theorem startStopCall_active (d : Nat) : (startStopCall d s).active = s.active := rfl
@[simp] theorem startStopCall_initCall (d : Nat) : (startStopCall d s).initCall = s.initCall := rfl
@[simp] theorem startStopCall_stopCalls (d : Nat) : (startStopCall d s).stopCalls = s.stopCalls ++ [d] := rfl
@[simp] theorem startStopCall_notifications (d : Nat) : (startStopCall d s).notifications = s.notifications := rfl
@[simp] theorem startStopCall_log (d : Nat) : (startStopCall d s).log = s.log := rfl
@[simp] theorem startStopCall_writeFails (d : Nat) : (startStopCall d s).writeFails = s.writeFails := rfl
@[simp] theorem startStopCall_result (d : Nat) : (startStopCall d s).result = s.result := rfl
@[simp] theorem startStopCall_agenda (d : Nat) : (startStopCall d s).agenda = s.agenda := rfl
@[simp] theorem startStopCall_freeCount (d : Nat) : (startStopCall d s).freeCount = s.freeCount := rfl

@[simp] theorem elapse_cfg (d : Nat) : (elapse d s).cfg = s.cfg := rfl
@[simp] theorem elapse_rxState (d : Nat) : (elapse d s).rxState = s.rxState := rfl
@[simp] theorem elapse_rxBuf (d : Nat) : (elapse d s).rxBuf = s.rxBuf := rfl
@[simp] theorem elapse_cmdIn (d : Nat) : (elapse d s).cmdIn = s.cmdIn := rfl
@[simp] theorem elapse_rxIn (d : Nat) : (elapse d s).rxIn = s.rxIn := rfl
@[simp] theorem elapse_evUnread (d : Nat) : (elapse d s).evUnread = s.evUnread := rfl
@[simp] theorem elapse_txStream (d : Nat) : (elapse d s).txStream = s.txStream := rfl
@[simp] theorem elapse_rxStream (d : Nat) : (elapse d s).rxStream = s.rxStream := rfl
@[simp] theorem elapse_evOut (d : Nat) : (elapse d s).evOut = s.evOut := rfl
@[simp] theorem elapse_pending (d : Nat) : (elapse d s).pending = s.pending := rfl
@[simp] theorem elapse_handles (d : Nat) : (elapse d s).handles = s.handles := rfl
@[simp] theorem elapse_active (d : Nat) : (elapse d s).active = s.active := rfl
@[simp] theorem elapse_initCall (d : Nat) : (elapse d s).initCall = s.initCall := rfl
@[simp] theorem elapse_stopCalls (d : Nat) : (elapse d s).stopCalls = s.stopCalls.map (· - d) := rfl
@[simp] theorem elapse_notifications (d : Nat) : (elapse d s).notifications = s.notifications := rfl
@[simp] theorem elapse_log (d : Nat) : (elapse d s).log = s.log := rfl
@[simp] theorem elapse_writeFails (d : Nat) : (elapse d s).writeFails = s.writeFails := rfl
@[simp] theorem elapse_result (d : Nat) : (elapse d s).result = s.result := rfl
@[simp] theorem elapse_agenda (d : Nat) : (elapse d s).agenda = s.agenda := rfl
@[simp] theorem elapse_freeCount (d : Nat) : (elapse d s).freeCount = s.freeCount := rfl

@[simp] theorem flush_cfg : (flush s).cfg = s.cfg := rfl
@[simp] theorem flush_rxState : (flush s).rxState = s.rxState := rfl
@[simp] theorem flush_rxBuf : (flush s).rxBuf = s.rxBuf := rfl
@[simp] theorem flush_cmdIn : (flush s).cmdIn = s.cmdIn := rfl
@[simp] theorem flush_rxIn : (flush s).rxIn = [] := rfl
@[simp] theorem flush_evUnread : (flush s).evUnread = s.evUnread := rfl
@[simp] theorem flush_txStream : (flush s).txStream = s.txStream := rfl
@[simp] theorem flush_rxStream : (flush s).rxStream = s.rxStream := rfl
@[simp] theorem flush_evOut : (flush s).evOut = s.evOut := rfl
@[simp] theorem flush_pending : (flush s).pending = s.pending := rfl
@[simp] theorem flush_handles : (flush s).handles = s.handles := rfl
@[simp] theorem flush_active : (flush s).active = s.active := rfl
@[simp] theorem flush_initCall : (flush s).initCall = s.initCall := rfl
@[simp] theorem flush_stopCalls : (flush s).stopCalls = s.stopCalls := rfl
@[simp] theorem flush_notifications : (flush s).notifications = s.notifications := rfl
@[simp] theorem flush_log : (flush s).log = s.log := rfl
@[simp] theorem flush_writeFails : (flush s).writeFails = s.writeFails := rfl
@[simp] theorem flush_result : (flush s).result = s.result := rfl
@[simp] theorem flush_agenda : (flush s).agenda = s.agenda := rfl
@[simp] theorem flush_freeCount : (flush s).freeCount = s.freeCount := rfl

@[simp] theorem beginInit_cfg : (beginInit s).cfg = s.cfg := rfl
@[simp] theorem beginInit_rxState : (beginInit s).rxState = s.rxState := rfl
@[simp] theorem beginInit_rxBuf : (beginInit s).rxBuf = s.rxBuf := rfl
@[simp] theorem beginInit_cmdIn : (beginInit s).cmdIn = s.cmdIn := rfl
@[simp] theorem beginInit_rxIn : (beginInit s).rxIn = s.rxIn := rfl
@[simp] theorem beginInit_evUnread : (beginInit s).evUnread = s.evUnread := rfl
@[simp] theorem beginInit_txStream : (beginInit s).txStream = s.txStream := rfl
@[simp] theorem beginInit_rxStream : (beginInit s).rxStream = s.rxStream := rfl
@[simp] theorem beginInit_evOut : (beginInit s).evOut = s.evOut := rfl
@[simp] theorem beginInit_pending : (beginInit s).pending = s.pending := rfl
@[simp] theorem beginInit_handles : (beginInit s).handles = s.handles := rfl
@[simp] theorem beginInit_active : (beginInit s).active = true := rfl
@[simp] theorem beginInit_initCall : (beginInit s).initCall = .waiting := rfl
@[simp] theorem beginInit_stopCalls : (beginInit s).stopCalls = s.stopCalls := rfl
@[simp] theorem beginInit_notifications : (beginInit s).notifications = s.notifications := rfl
@[simp] theorem beginInit_log : (beginInit s).log = s.log := rfl
@[simp] theorem beginInit_writeFails : (beginInit s).writeFails = s.writeFails := rfl
@[simp] theorem beginInit_result : (beginInit s).result = .initStarted := rfl
@[simp] theorem beginInit_agenda : (beginInit s).agenda = s.agenda := rfl
@[simp] theorem beginInit_freeCount : (beginInit s).freeCount = s.freeCount := rfl

@[simp] theorem dropConnection_cfg : (dropConnection s).cfg = s.cfg := rfl
@[simp] theorem dropConnection_rxState : (dropConnection s).rxState = s.rxState := rfl
@[simp] theorem dropConnection_rxBuf : (dropConnection s).rxBuf = s.rxBuf := rfl
@[simp] theorem dropConnection_cmdIn : (dropConnection s).cmdIn = s.cmdIn := rfl
@[simp] theorem dropConnection_rxIn : (dropConnection s).rxIn = s.rxIn := rfl
@[simp] theorem dropConnection_evUnread : (dropConnection s).evUnread = s.evUnread := rfl
@[simp] theorem dropConnection_txStream : (dropConnection s).txStream = s.txStream := rfl
@[simp] theorem dropConnection_rxStream : (dropConnection s).rxStream = s.rxStream := rfl
@[simp] theorem dropConnection_evOut : (dropConnection s).evOut = s.evOut := rfl
@[simp] theorem dropConnection_pending : (dropConnection s).pending = s.pending := rfl
@[simp] theorem dropConnection_handles : (dropConnection s).handles = s.handles := rfl
@[simp] theorem dropConnection_active : (dropConnection s).active = (s.active && Config.freeStaysActive s.freeCount) := rfl
@[simp] theorem dropConnection_initCall : (dropConnection s).initCall = s.initCall := rfl
@[simp] theorem dropConnection_stopCalls : (dropConnection s).stopCalls = s.stopCalls := rfl
@[simp] theorem dropConnection_notifications : (dropConnection s).notifications = s.notifications := rfl
@[simp] theorem dropConnection_log : (dropConnection s).log = s.log := rfl
@[simp] theorem dropConnection_writeFails : (dropConnection s).writeFails = s.writeFails := rfl
@[simp] theorem dropConnection_result : (dropConnection s).result = s.result := rfl
@[simp] theorem dropConnection_agenda : (dropConnection s).agenda = s.agenda := rfl
@[simp] theorem dropConnection_freeCount : (dropConnection s).freeCount = s.freeCount + 1 := rfl

end Sys2Proof.Machine
end

