-- ==== Sys2Proof/Laws/Correlator.lean ====
section
/-! SUPPORT. What the host side's shared operations do, said once each. -/

namespace Sys2Proof.Machine

/-- Closing the pending handle (R195, R197). -/
theorem closeHandle_cases (k : HandleCond) (s : State) :
    (s.pending = none ∧ closeHandle k s = s) ∨
    (∃ h, s.pending = some h ∧ closeHandle k s = { s with pending := none, handles := s.handles.set h k }) := by
  unfold closeHandle
  cases hp : s.pending with
  | none => exact .inl ⟨rfl, rfl⟩
  | some h => exact .inr ⟨h, rfl, rfl⟩

/-- What a write adds to the state, by whether it fails (R41, R192, 93 U14). -/
theorem reportWrite_cases (s : State) :
    (s.writeFails = false ∧ reportWrite s = s) ∨
    (s.writeFails = true ∧ reportWrite s =
      { s with agenda := agendaWithError s.freeCount s.agenda, freeCount := s.freeCount + 1 }) := by
  cases hw : s.writeFails
  · exact .inl ⟨rfl, by rw [reportWrite, if_neg (by simp [hw]), if_neg (by simp [hw])]⟩
  · exact .inr ⟨rfl, by rw [reportWrite, if_pos hw, if_pos hw, hw]⟩

/-- What TXCMD does, by whether the write fails (R41, R118). -/
theorem txCmd_cases (c : Cmd) (s : State) :
    (s.writeFails = false ∧
      txCmd c s = { s with txStream := s.txStream ++ frameEncode s.cfg (cmdEncode s.cfg c) }) ∨
    (s.writeFails = true ∧
      txCmd c s = { s with txStream := s.txStream ++ frameEncode s.cfg (cmdEncode s.cfg c),
                           agenda := agendaWithError s.freeCount s.agenda, freeCount := s.freeCount + 1 }) := by
  rcases reportWrite_cases (txEmit (frameEncode s.cfg (cmdEncode s.cfg c)) s) with ⟨hw, h⟩ | ⟨hw, h⟩
  · exact .inl ⟨hw, h⟩
  · exact .inr ⟨hw, h⟩

/-- The report of a failed write is among the turns still to be taken, and none of those is lost (93 U14). -/
theorem agendaWithError_perm (n : Nat) (ts : List Turn) :
    (agendaWithError n ts).Perm (.transport (.error (Config.freeErrorInfo n)) :: ts) := by
  unfold agendaWithError
  exact List.perm_middle.trans (by rw [List.take_append_drop])

/-- Returning after a write (93 U14). -/
theorem returnAfterWrite_cases (r : Result) (s : State) :
    (s.writeFails = false ∧ returnAfterWrite r s = setResult r s) ∨
    (s.writeFails = true ∧ returnAfterWrite r s =
      { s with result := .writeFailed (Config.freeCallOutcome s.freeCount), freeCount := s.freeCount + 1 }) := by
  unfold returnAfterWrite
  cases hw : s.writeFails <;> simp

/-- A call's return writes the result and the free counter, nothing else. -/
theorem returnAfterWrite_frame (r : Result) (s : State) :
    returnAfterWrite r s = { s with result := (returnAfterWrite r s).result,
                                    freeCount := (returnAfterWrite r s).freeCount } := by
  rcases returnAfterWrite_cases r s with ⟨_, h⟩ | ⟨_, h⟩
  · rw [h]; rfl
  · rw [h]

/-- Ending an INIT call (R200). -/
theorem endInit_cases (r : InitCall) (s : State) :
    (s.initCall = .waiting ∧ endInit r s = { s with initCall := r }) ∨ (s.initCall ≠ .waiting ∧ endInit r s = s) := by
  unfold endInit
  by_cases h : s.initCall = .waiting <;> simp [h]

/-- A transport notification (R200, R215, 93 U16). -/
theorem transportNote_cases (n : TransportNote) (s : State) :
    (∃ info, n = .error info ∧ transportNote n s = endInit .failure (publish (.transport n) s)) ∨
    ((n = .close ∨ n = .disconnect) ∧ transportNote n s = dropConnection (publish (.transport n) s)) := by
  cases n with
  | error info => exact .inl ⟨info, rfl, rfl⟩
  | close => exact .inr ⟨.inl rfl, rfl⟩
  | disconnect => exact .inr ⟨.inr rfl, rfl⟩

/-- What ISSUE can do when it answers a next state (R192, R198). -/
theorem execIssue_cases {m : Motion} {s t : State} (h : execIssue m s = .next t) :
    (bearing m = true ∧ s.pending = none ∧
      t = returnAfterWrite (.handle s.handles.length) (openHandle (txCmd (.motion m) s))) ∨
    (bearing m = false ∧
      t = returnAfterWrite (.immediate (Config.returnsNothing m.opcode)) (txCmd (.motion m) s)) := by
  unfold execIssue issueMotion at h
  cases hb : bearing m with
  | false => simp [hb] at h; exact .inr ⟨rfl, h.symm⟩
  | true =>
    cases hp : s.pending with
    | none => simp [hb, hp] at h; exact .inl ⟨rfl, rfl, h.symm⟩
    | some k => simp [hb, hp] at h

end Sys2Proof.Machine
end

