-- ==== Sys2Proof/Laws/PerInstr.lean ====
section
/-! SUPPORT. A fact about each instruction as syntax, one lemma per constructor: it has an encoding exactly when its
row's format is one with a bit pattern (R82). -/

namespace Sys2Proof.Laws

/-- The formats whose rows have a bit pattern (R82). -/
def hasPattern : Format → Bool
  | .cmd => true
  | .rsp => true
  | .wire => true
  | .op => false
  | .host => false

/-- An instruction has an encoding exactly when its format has bit patterns. -/
def EncodesByFormat.Statement (i : Instr) : Prop := ∀ c : Config, (encode c i).isSome = hasPattern i.format

theorem EncodesByFormat.forward (speed distance : Int) : EncodesByFormat.Statement (.forward speed distance) := fun _ => rfl
theorem EncodesByFormat.reverse (speed distance : Int) : EncodesByFormat.Statement (.reverse speed distance) := fun _ => rfl
theorem EncodesByFormat.rotate (speed angle : Int) : EncodesByFormat.Statement (.rotate speed angle) := fun _ => rfl
theorem EncodesByFormat.turn (speed angle radius : Int) : EncodesByFormat.Statement (.turn speed angle radius) := fun _ => rfl
theorem EncodesByFormat.driveRaw (leftSpeed rightSpeed : Int) : EncodesByFormat.Statement (.driveRaw leftSpeed rightSpeed) := fun _ => rfl
theorem EncodesByFormat.stop (hard : ArgValue) : EncodesByFormat.Statement (.stop hard) := fun _ => rfl
theorem EncodesByFormat.keepHeading (speed heading distance : Int) : EncodesByFormat.Statement (.keepHeading speed heading distance) := fun _ => rfl
theorem EncodesByFormat.resetOrientation : EncodesByFormat.Statement (.resetOrientation) := fun _ => rfl
theorem EncodesByFormat.ready : EncodesByFormat.Statement (.ready) := fun _ => rfl
theorem EncodesByFormat.odometry (leftDir leftDelta rightDir rightDelta headingMsb headingLsb : Byte) : EncodesByFormat.Statement (.odometry leftDir leftDelta rightDir rightDelta headingMsb headingLsb) := fun _ => rfl
theorem EncodesByFormat.targetReached : EncodesByFormat.Statement (.targetReached) := fun _ => rfl
theorem EncodesByFormat.unknown (first : Byte) (rest : List Byte) : EncodesByFormat.Statement (.unknown first rest) := fun _ => rfl
theorem EncodesByFormat.delimiter : EncodesByFormat.Statement (.delimiter) := fun _ => rfl
theorem EncodesByFormat.escapedFlag : EncodesByFormat.Statement (.escapedFlag) := fun _ => rfl
theorem EncodesByFormat.escapedEsc : EncodesByFormat.Statement (.escapedEsc) := fun _ => rfl
theorem EncodesByFormat.literal (data : Byte) : EncodesByFormat.Statement (.literal data) := fun _ => rfl
theorem EncodesByFormat.badEscape (data : Byte) : EncodesByFormat.Statement (.badEscape data) := fun _ => rfl
theorem EncodesByFormat.danglingEscape : EncodesByFormat.Statement (.danglingEscape) := fun _ => rfl
theorem EncodesByFormat.stuff (p : List Byte) : EncodesByFormat.Statement (.stuff p) := fun _ => rfl
theorem EncodesByFormat.encode (p : List Byte) : EncodesByFormat.Statement (.encode p) := fun _ => rfl
theorem EncodesByFormat.unstuff (body : List Byte) : EncodesByFormat.Statement (.unstuff body) := fun _ => rfl
theorem EncodesByFormat.decode (w : List Byte) : EncodesByFormat.Statement (.decode w) := fun _ => rfl
theorem EncodesByFormat.cmdencode (c : Cmd) : EncodesByFormat.Statement (.cmdencode c) := fun _ => rfl
theorem EncodesByFormat.txcmd (c : Cmd) : EncodesByFormat.Statement (.txcmd c) := fun _ => rfl
theorem EncodesByFormat.rxbyte (b : Byte) : EncodesByFormat.Statement (.rxbyte b) := fun _ => rfl
theorem EncodesByFormat.rxchunk (c : List Byte) : EncodesByFormat.Statement (.rxchunk c) := fun _ => rfl
theorem EncodesByFormat.closeframe : EncodesByFormat.Statement (.closeframe) := fun _ => rfl
theorem EncodesByFormat.classify (first : Byte) (rest : List Byte) : EncodesByFormat.Statement (.classify first rest) := fun _ => rfl
theorem EncodesByFormat.ticks (d n : Byte) : EncodesByFormat.Statement (.ticks d n) := fun _ => rfl
theorem EncodesByFormat.parsefixed (msb lsb : Byte) : EncodesByFormat.Statement (.parsefixed msb lsb) := fun _ => rfl
theorem EncodesByFormat.heading (msb lsb : Byte) : EncodesByFormat.Statement (.heading msb lsb) := fun _ => rfl
theorem EncodesByFormat.telemetry (q0 q1 q2 q3 q4 q5 : Byte) : EncodesByFormat.Statement (.telemetry q0 q1 q2 q3 q4 q5) := fun _ => rfl
theorem EncodesByFormat.reset : EncodesByFormat.Statement (.reset) := fun _ => rfl
theorem EncodesByFormat.issue (m : Motion) : EncodesByFormat.Statement (.issue m) := fun _ => rfl
theorem EncodesByFormat.ontargetreached : EncodesByFormat.Statement (.ontargetreached) := fun _ => rfl
theorem EncodesByFormat.stopcmd (hard : ArgValue) : EncodesByFormat.Statement (.stopcmd hard) := fun _ => rfl
theorem EncodesByFormat.cancel : EncodesByFormat.Statement (.cancel) := fun _ => rfl
theorem EncodesByFormat.init : EncodesByFormat.Statement (.init) := fun _ => rfl

end Sys2Proof.Laws
end

