-- ==== Sys2Proof/Laws/Receive.lean ====
section
/-! SUPPORT. What the receive agent's operations do, said once each. -/

namespace Sys2Proof.Machine

/-- CLASSIFY appends one event and does nothing else (R150). -/
theorem classify_eq (f : List Byte) (s : State) : classify f s = emit (frameEvent s.cfg f) s := rfl

/-- The event of a class that is not unknown comes from the class alone (R150). -/
theorem frameEvent_of_class {c : Config} {f : List Byte} {k : FrameClass} (h : frameClass c f = k) :
    frameEvent c f = classEvent c f k := by
  rw [frameEvent, h]

/-- Raising Malformed, field by field (R220). -/
theorem raiseMalformed_eq (k : Cause) (s : State) :
    raiseMalformed k s =
      { s with rxState := stateAfterMalformed k, rxBuf := [], evOut := s.evOut ++ [.malformed k],
               evUnread := s.evUnread ++ [.malformed k] } := rfl

/-- CLOSEFRAME either emits the event of the decoded frame or raises Malformed; the buffer is empty and the state at
the boundary in both cases (R149). -/
theorem closeFrame_cases (s : State) :
    (∃ f, unstuff s.cfg s.rxBuf = .ok f ∧
      closeFrame s = emit (frameEvent s.cfg f) (setRxState .awaitingDelimiter (clearBuf s))) ∨
    (∃ k, unstuff s.cfg s.rxBuf = .malformed k ∧
      closeFrame s = raiseMalformed k (setRxState .awaitingDelimiter (clearBuf s))) := by
  unfold closeFrame closeOutcome
  cases unstuff s.cfg s.rxBuf with
  | ok f => exact .inl ⟨f, rfl, rfl⟩
  | malformed k => exact .inr ⟨k, rfl, rfl⟩

theorem bufferFull_iff (s : State) : bufferFull s = true ↔ s.cfg.maxBody = some s.rxBuf.length := by
  simp [bufferFull]

/-- What RXBYTE can do: the six outcomes of the byte step (R142, R143), `u` the state with the byte consumed. -/
theorem rxByte_cases (b : Byte) (s : State) (u : State) (hu : u = consumeByte b s) :
    (s.rxState = .discarding ∧ b = s.cfg.flag ∧ rxByte b s = setRxState .awaitingDelimiter u) ∨
    (s.rxState = .discarding ∧ b ≠ s.cfg.flag ∧ rxByte b s = u) ∨
    (s.rxState ≠ .discarding ∧ b = s.cfg.flag ∧ s.rxBuf = [] ∧ rxByte b s = u) ∨
    (s.rxState ≠ .discarding ∧ b = s.cfg.flag ∧ s.rxBuf ≠ [] ∧ rxByte b s = closeFrame u) ∨
    (s.rxState ≠ .discarding ∧ b ≠ s.cfg.flag ∧ s.cfg.maxBody = some s.rxBuf.length ∧
      rxByte b s = raiseMalformed .overrun u) ∨
    (s.rxState ≠ .discarding ∧ b ≠ s.cfg.flag ∧ s.cfg.maxBody ≠ some s.rxBuf.length ∧
      rxByte b s = setRxState .accumulatingFrame (appendBuf b u)) := by
  subst hu
  unfold rxByte rxTransition
  simp only [consumeByte_rxState, consumeByte_cfg, consumeByte_rxBuf, bufferFull]
  cases s.rxState <;> by_cases hb : b = s.cfg.flag <;> by_cases hn : s.rxBuf = [] <;>
    by_cases hm : s.cfg.maxBody = some s.rxBuf.length <;> simp_all

/-- A byte other than FLAG that fits is stored as it came (R144). -/
theorem rxByte_store {b : Byte} {s : State} (hs : s.rxState ≠ .discarding) (hb : b ≠ s.cfg.flag)
    (hm : s.cfg.maxBody ≠ some s.rxBuf.length) :
    rxByte b s = { s with rxState := .accumulatingFrame, rxBuf := s.rxBuf ++ [b],
                          rxStream := s.rxStream ++ [b] } := by
  rcases rxByte_cases b s _ rfl with ⟨a, _, _⟩ | ⟨a, _, _⟩ | ⟨_, a, _, _⟩ | ⟨_, a, _, _⟩ | ⟨_, _, a, _⟩ | ⟨_, _, _, h⟩
  · exact absurd a hs
  · exact absurd a hs
  · exact absurd a hb
  · exact absurd a hb
  · exact absurd a hm
  · exact h

/-- A FLAG closes the frame in progress (R143). -/
theorem rxByte_close {s : State} (hs : s.rxState ≠ .discarding) (hn : s.rxBuf ≠ []) :
    rxByte s.cfg.flag s = closeFrame (consumeByte s.cfg.flag s) := by
  rcases rxByte_cases s.cfg.flag s _ rfl with
    ⟨a, _, _⟩ | ⟨a, _, _⟩ | ⟨_, _, a, _⟩ | ⟨_, _, _, h⟩ | ⟨_, a, _, _⟩ | ⟨_, a, _, _⟩
  · exact absurd a hs
  · exact absurd a hs
  · exact absurd a hn
  · exact h
  · exact absurd rfl a
  · exact absurd rfl a

@[simp] theorem rxChunk_nil (s : State) : rxChunk [] s = s := rfl

@[simp] theorem rxChunk_cons (b : Byte) (c : List Byte) (s : State) :
    rxChunk (b :: c) s = rxChunk c (rxByte b s) := rfl

/-- The parameters are the same after a byte (R30). -/
@[simp] theorem rxByte_cfg (b : Byte) (s : State) : (rxByte b s).cfg = s.cfg := by
  rcases rxByte_cases b s _ rfl with ⟨_, _, h⟩ | ⟨_, _, h⟩ | ⟨_, _, _, h⟩ | ⟨_, _, _, h⟩ | ⟨_, _, _, h⟩ | ⟨_, _, _, h⟩ <;>
    rw [h]
  · rfl
  · rfl
  · rfl
  · rcases closeFrame_cases (consumeByte b s) with ⟨f, _, hc⟩ | ⟨k, _, hc⟩ <;> rw [hc] <;> rfl
  · rfl
  · rfl

/-- The parameters are the same after a chunk (R30). -/
@[simp] theorem rxChunk_cfg (c : List Byte) (s : State) : (rxChunk c s).cfg = s.cfg := by
  induction c generalizing s with
  | nil => rfl
  | cons b c ih => rw [rxChunk_cons, ih, rxByte_cfg]

/-- The parameters are the same after a frame (R30). -/
@[simp] theorem receiveFrame_cfg (f : List Byte) (s : State) : (receiveFrame f s).cfg = s.cfg := rxChunk_cfg _ s

/-- The byte step touches nothing but the receive agent's own state and its two ports (R36, R141). -/
theorem rxByte_frame (b : Byte) (s : State) :
    rxByte b s = { s with rxState := (rxByte b s).rxState, rxBuf := (rxByte b s).rxBuf,
                          rxStream := s.rxStream ++ [b], evOut := (rxByte b s).evOut,
                          evUnread := (rxByte b s).evUnread } := by
  rcases rxByte_cases b s _ rfl with ⟨_, _, h⟩ | ⟨_, _, h⟩ | ⟨_, _, _, h⟩ | ⟨_, _, _, h⟩ | ⟨_, _, _, h⟩ | ⟨_, _, _, h⟩ <;>
    rw [h]
  · rfl
  · rfl
  · rfl
  · rcases closeFrame_cases (consumeByte b s) with ⟨f, _, hc⟩ | ⟨k, _, hc⟩ <;> rw [hc] <;> rfl
  · rfl
  · rfl

/-- A chunk touches nothing but the receive agent's own state and its two ports (R36, R141). -/
theorem rxChunk_frame (c : List Byte) (s : State) :
    rxChunk c s = { s with rxState := (rxChunk c s).rxState, rxBuf := (rxChunk c s).rxBuf,
                           rxStream := s.rxStream ++ c, evOut := (rxChunk c s).evOut,
                           evUnread := (rxChunk c s).evUnread } := by
  induction c generalizing s with
  | nil => simp
  | cons b c ih => rw [rxChunk_cons, ih, rxByte_frame b s]; simp

end Sys2Proof.Machine
end

