-- ==== Sys2Proof/Laws/Step.lean ====
section
/-! SUPPORT. What a step can be, said once. -/

namespace Sys2Proof.Machine

/-- A step that answers a next state either ends with the turn or runs one instruction. -/
theorem step_cases {s t : State} (h : step s = .next t) :
    fetchNext s = .done t ∨ ∃ i u, fetchNext s = .run i u ∧ exec i u = .next t := by
  unfold step at h
  cases hf : fetchNext s with
  | run i u => rw [hf] at h; exact .inr ⟨i, u, rfl, h⟩
  | done u => rw [hf] at h; exact .inl (by simpa using h)
  | stop r => rw [hf] at h; simp at h

/-- The step of an instruction that is fetched. -/
theorem step_of_run {s u : State} {i : Instr} (h : fetchNext s = .run i u) : step s = exec i u := by
  unfold step; rw [h]

/-- The step of a turn that runs no instruction. -/
theorem step_of_done {s u : State} (h : fetchNext s = .done u) : step s = .next u := by
  unfold step; rw [h]

/-- With an empty agenda the machine waits (R240). -/
theorem fetchNext_nil {s : State} (h : s.agenda = []) : fetchNext s = .done s := by
  unfold fetchNext; rw [h]

/-- The turn at the head of the agenda is taken. -/
theorem fetchNext_cons {s : State} {t : Turn} {ts : List Turn} (h : s.agenda = t :: ts) :
    fetchNext s = fetchTurn t { s with agenda := ts } := by
  unfold fetchNext; rw [h]

/-- What a turn that runs an instruction has changed before the instruction runs: the queue or item it was taken
from. -/
theorem fetchTurn_run {t : Turn} {s u : State} {i : Instr} (h : fetchTurn t s = .run i u) :
    (∃ c cs, t = .tx ∧ s.cmdIn = c :: cs ∧ i = .txcmd c ∧ u = { s with cmdIn := cs }) ∨
    (∃ b bs, t = .rx ∧ s.rxIn = b :: bs ∧ i = .rxbyte b ∧ u = { s with rxIn := bs }) ∨
    (∃ es, t = .host ∧ s.evUnread = .targetReached :: es ∧ i = .ontargetreached ∧ u = { s with evUnread := es }) ∨
    (t = .call i ∧ u = s) ∨
    (∃ f bs left, t = .encoded f bs ∧ decode s.cfg f bs = .ok (i, left) ∧ u = keepRest f left s) := by
  cases t with
  | deliver c => simp [fetchTurn] at h
  | submit c => simp [fetchTurn] at h
  | tx =>
    simp only [fetchTurn, fetchTx] at h
    split at h
    · simp at h
    · rename_i c cs hc
      simp only [Fetched.run.injEq] at h
      exact .inl ⟨c, cs, rfl, hc, h.1.symm, h.2.symm⟩
  | rx =>
    simp only [fetchTurn, fetchRx] at h
    split at h
    · simp at h
    · rename_i b bs hb
      simp only [Fetched.run.injEq] at h
      exact .inr (.inl ⟨b, bs, rfl, hb, h.1.symm, h.2.symm⟩)
  | host =>
    simp only [fetchTurn, fetchEvent] at h
    split at h
    · simp at h
    · rename_i es he
      simp only [Fetched.run.injEq] at h
      exact .inr (.inr (.inl ⟨es, rfl, he, h.1.symm, h.2.symm⟩))
    · simp at h
  | transport n => simp [fetchTurn] at h
  | writes f => simp [fetchTurn] at h
  | elapse d => simp [fetchTurn] at h
  | call j =>
    simp only [fetchTurn, Fetched.run.injEq] at h
    exact .inr (.inr (.inr (.inl ⟨by rw [h.1], h.2.symm⟩)))
  | encoded f bs =>
    simp only [fetchTurn, fetchEncoded] at h
    split at h
    · simp at h
    · split at h
      · rename_i j left hd
        simp only [Fetched.run.injEq] at h
        exact .inr (.inr (.inr (.inr ⟨f, bs, left, rfl, by rw [hd, h.1], h.2.symm⟩)))
      · simp at h

end Sys2Proof.Machine
end

