-- ==== Sys2Proof/Tests/Slice0.lean ====
section
/-! SUPPORT. The model's own tests. Expected values are the vectors of spec/95_test_vectors.md (V1 to V118, P1 to P6)
or worked by hand from the rule named. `witness_<Name>` shows states and operands that meet the hypotheses of the
statement <Name>, clause by clause, at boundary values. -/

namespace Sys2Proof.Tests

open Sys2Proof.Machine

/-- The example instantiation X1 (R15), all direction bytes NEG1. -/
def x1 : Config :=
  { Config.machine with
    respMarker := 0xA3, tagReady := 1, tagOdometry := 2, tagTargetReached := 3,
    signConv := ⟨.neg1, .neg1, .neg1, .neg1, .neg1⟩, settleDelay := 5 }

/-- X1 with every direction byte NEG0. -/
def x0 : Config := { x1 with signConv := ⟨.neg0, .neg0, .neg0, .neg0, .neg0⟩ }

/-- The state after reset under X1. -/
def s1 : State := { State.reset with cfg := x1 }

/-- A state under X1 with a frame in progress. -/
def sBuf (buf : List Byte) : State := { s1 with rxState := .accumulatingFrame, rxBuf := buf }

/-- A state with a finite buffer. -/
def sMax (m : Nat) (r : RxState) (buf : List Byte) : State :=
  { s1 with cfg := { x1 with maxBody := some m }, rxState := r, rxBuf := buf }

/-- A state whose PENDING holds an unresolved handle. -/
def sPending : State := { s1 with pending := some 0, handles := [.unresolved] }

/-- A state in which the transport's writes fail. -/
def sFailing : State := { s1 with writeFails := true }

/-- What a next state shows; nothing of a fault or a refusal. -/
def after {α : Type} (o : Host.Outcome State Fault Refusal) (f : State → α) : Option α :=
  match o with
  | .next t => some (f t)
  | .fault _ => none
  | .refused _ => none

/-- The receive agent's view of a state. -/
def rx (t : State) : RxState × List Byte × List Event := (t.rxState, t.rxBuf, t.evOut)

/-- The reason of a refusal. -/
def reason (o : Host.Outcome State Fault Refusal) : Option Refusal :=
  match o with
  | .next _ => none
  | .fault _ => none
  | .refused r => some r

/- WellFormed refuses an ill-formed term of each kind. -/

theorem test_wf_speed_above : Instr.wellFormed x1 (.forward 256 0) = false := by decide
theorem test_wf_speed_negative : Instr.wellFormed x1 (.forward (-1) 0) = false := by decide
theorem test_wf_distance : Instr.wellFormed x1 (.reverse 0 (-256)) = false := by decide
theorem test_wf_angle : Instr.wellFormed x1 (.rotate 0 256) = false := by decide
theorem test_wf_radius : Instr.wellFormed x1 (.turn 0 0 (-1)) = false := by decide
theorem test_wf_raw : Instr.wellFormed x1 (.driveRaw 0 300) = false := by decide
theorem test_wf_stop : Instr.wellFormed x1 (.stop (.int 7)) = false := by decide
theorem test_wf_heading : Instr.wellFormed x1 (.keepHeading 0 (-256) 0) = false := by decide
theorem test_wf_layout : Instr.wellFormed { x1 with layout := { Layout.default with forward := [] } } (.forward 0 0) =
    false := by decide
theorem test_wf_unknown : Instr.wellFormed x1 (.unknown 0xA3 [1]) = false := by decide
theorem test_wf_literal : Instr.wellFormed x1 (.literal 0x7E) = false ∧ Instr.wellFormed x1 (.literal 0x7D) = false := by
  decide
theorem test_wf_badEscape : Instr.wellFormed x1 (.badEscape 0x7E) = false ∧
    Instr.wellFormed x1 (.badEscape 0x5E) = false ∧ Instr.wellFormed x1 (.badEscape 0x5D) = false := by decide
theorem test_wf_port : Cmd.fitsPorts x1 (.motion (.forward 32768 0)) = false ∧
    Cmd.fitsPorts x1 (.motion (.forward (-32768) 32767)) = true := by decide
theorem test_wf_accepts : Instr.wellFormed x1 (.keepHeading 255 (-255) 255) = true := by decide
theorem test_x1_valid : x1.valid := by decide

/- Decoding: bytes written out from R62, R67, R68, R71 and V30 to V50. -/

theorem test_decode_forward : decode x1 .cmd [0xA3, 0x10, 0x14, 0x64, 0x01] = .ok (.forward 20 (-100), []) := by rfl
theorem test_decode_reverse : decode x1 .cmd [0xA3, 0x11, 0x32, 0xFF, 0x00] = .ok (.reverse 50 255, []) := by rfl
theorem test_decode_rotate : decode x1 .cmd [0xA3, 0x12, 0x14, 0x5A, 0x01] = .ok (.rotate 20 (-90), []) := by rfl
theorem test_decode_rotate_neg0 : decode x0 .cmd [0xA3, 0x12, 0x14, 0x5A, 0x00] = .ok (.rotate 20 (-90), []) := by rfl
theorem test_decode_turn : decode x1 .cmd [0xA3, 0x13, 0x1E, 0x2D, 0x00, 0xC8] = .ok (.turn 30 45 200, []) := by rfl
theorem test_decode_driveRaw : decode x1 .cmd [0xA3, 0x14, 0x0A, 0xFF] = .ok (.driveRaw 10 255, []) := by rfl
theorem test_decode_stop : decode x1 .cmd [0xA3, 0x15, 0x01] = .ok (.stop (.bool true), []) := by rfl
theorem test_decode_keepHeading : decode x1 .cmd [0xA3, 0x16, 0x19, 0x1E, 0x01, 0xFF, 0x00] =
    .ok (.keepHeading 25 (-30) 255, []) := by rfl
theorem test_decode_resetOrientation : decode x1 .cmd [0xA3, 0x20, 0x99] = .ok (.resetOrientation, [0x99]) := by rfl
theorem test_decode_ready : decode x1 .rsp [0xA3, 0x01] = .ok (.ready, []) := by rfl
theorem test_decode_odometry : decode x1 .rsp [0xA3, 0x02, 0x01, 0x0A, 0x00, 0x05, 0x23, 0x28] =
    .ok (.odometry 1 10 0 5 0x23 0x28, []) := by rfl
theorem test_decode_targetReached : decode x1 .rsp [0xA3, 0x03] = .ok (.targetReached, []) := by rfl
theorem test_decode_unknown : decode x1 .rsp [0xA3, 0x02, 0x01] = .ok (.unknown 0xA3 [0x02, 0x01], []) := by rfl
theorem test_decode_delimiter : decode x1 .wire [0x7E, 0x01] = .ok (.delimiter, [0x01]) := by rfl
theorem test_decode_escapedFlag : decode x1 .wire [0x7D, 0x5E] = .ok (.escapedFlag, []) := by rfl
theorem test_decode_escapedEsc : decode x1 .wire [0x7D, 0x5D] = .ok (.escapedEsc, []) := by rfl
theorem test_decode_literal : decode x1 .wire [0x5E, 0x5D] = .ok (.literal 0x5E, [0x5D]) := by rfl
theorem test_decode_badEscape : decode x1 .wire [0x7D, 0x41] = .ok (.badEscape 0x41, []) := by rfl
theorem test_decode_danglingEscape : decode x1 .wire [0x7D, 0x7E] = .ok (.danglingEscape, []) := by rfl
theorem test_decode_badMarker : decode x1 .cmd [0xA2, 0x10] = .error (.badMarker 0xA2) := by rfl
theorem test_decode_badDirection : decode x1 .cmd [0xA3, 0x10, 0, 0, 2] = .error (.badDirection 2) := by rfl
theorem test_decode_badBool : decode x1 .cmd [0xA3, 0x15, 2] = .error (.badBool 2) := by rfl
theorem test_decode_truncated : decode x1 .cmd [0xA3, 0x10, 0, 0] = .error .truncated ∧
    decode x1 .wire [0x7D] = .error .truncated := ⟨rfl, rfl⟩
theorem test_decode_noPattern : decode x1 .op [0x00] = .error .noPattern ∧ decode x1 .host [] = .error .noPattern :=
  ⟨rfl, rfl⟩
theorem test_decode_badLayout : decode { x1 with layout := { Layout.default with stop := [] } } .cmd [0xA3, 0x15] =
    .error (.badLayout .hard) := by rfl

/- One step each. -/

/-- V35, V37 (NEG1), V39. -/
theorem test_forward : after (exec (.forward (-5) (-256)) s1) State.result =
    some (.bytes [0xA3, 0x10, 0x00, 0xFF, 0x01]) := by decide
/-- V40, NEG0. -/
theorem test_reverse : after (exec (.reverse 20 0) { s1 with cfg := x0 }) State.result =
    some (.bytes [0xA3, 0x11, 0x14, 0x00, 0x01]) := by decide
/-- V34. -/
theorem test_rotate : after (exec (.rotate 20 (-32768)) s1) State.result =
    some (.bytes [0xA3, 0x12, 0x14, 0xFF, 0x01]) := by decide
/-- V43. -/
theorem test_turn : after (exec (.turn 30 (-45) 300) s1) State.result =
    some (.bytes [0xA3, 0x13, 0x1E, 0x2D, 0x01, 0xFF]) := by decide
/-- V47, V48. -/
theorem test_driveRaw : after (exec (.driveRaw (-5) 300) s1) State.result =
    some (.bytes [0xA3, 0x14, 0x00, 0xFF]) := by decide
/-- V45. -/
theorem test_stop : after (exec (.stop (.int 7)) s1) State.result = some (.bytes [0xA3, 0x15, 0x01]) := by decide
/-- V50, NEG0. -/
theorem test_keepHeading : after (exec (.keepHeading 25 (-30) 500) { s1 with cfg := x0 }) State.result =
    some (.bytes [0xA3, 0x16, 0x19, 0x1E, 0x00, 0xFF, 0x01]) := by decide
/-- V52. -/
theorem test_resetOrientation : after (exec .resetOrientation s1) State.result = some (.bytes [0xA3, 0x20]) := by decide
/-- R68. -/
theorem test_ready : after (exec .ready s1) State.evOut = some [.ready] := by decide
/-- R250: a frame that arrives inside another is folded into it. -/
theorem test_ready_midFrame : after (exec .ready (sBuf [0xA3, 0x09])) (fun t => (t.rxStream, t.evOut)) =
    some ([0xA3, 0x01, 0x7E], [.unknown [0xA3, 0x09, 0xA3, 0x01]]) := by decide
/-- V71. -/
theorem test_odometry : after (exec (.odometry 1 10 0 5 0x23 0x28) s1) State.evOut =
    some [.odometry 10 (-5) 9000] := by decide
/-- R68. -/
theorem test_targetReached : after (exec .targetReached s1) State.evOut = some [.targetReached] := by decide
/-- V67. -/
theorem test_unknown : after (exec (.unknown 0xA3 []) s1) State.evOut = some [.unknown [0xA3]] := by decide
/-- V62. -/
theorem test_delimiter_keepAlive : after (exec .delimiter s1) rx = some (.awaitingDelimiter, [], []) := by decide
/-- V67. -/
theorem test_delimiter_closes : after (exec .delimiter (sBuf [0xA3])) rx =
    some (.awaitingDelimiter, [], [.unknown [0xA3]]) := by decide
/-- R25: the bytes are held as they came. -/
theorem test_escapedFlag : after (exec .escapedFlag s1) rx = some (.accumulatingFrame, [0x7D, 0x5E], []) := by decide
theorem test_escapedEsc : after (exec .escapedEsc s1) rx = some (.accumulatingFrame, [0x7D, 0x5D], []) := by decide
/-- V64. -/
theorem test_literal : after (exec (.literal 0xA3) s1) rx = some (.accumulatingFrame, [0xA3], []) := by decide
theorem test_badEscape : after (exec (.badEscape 0x41) (sBuf [0xA3])) rx =
    some (.accumulatingFrame, [0xA3, 0x7D, 0x41], []) := by decide
/-- V65. -/
theorem test_danglingEscape : after (exec .danglingEscape (sBuf [0xA3])) rx =
    some (.awaitingDelimiter, [], [.malformed .danglingEscape]) := by decide
/-- V8. -/
theorem test_stuff : after (exec (.stuff [0x01, 0x7E, 0x7D, 0x02]) s1) State.result =
    some (.bytes [0x01, 0x7D, 0x5E, 0x7D, 0x5D, 0x02]) := by decide
/-- V3. -/
theorem test_encode : after (exec (.encode [0x7D]) s1) State.result = some (.bytes [0x7D, 0x5D, 0x7E]) := by decide
/-- V22, strict. -/
theorem test_unstuff : after (exec (.unstuff [0x7D, 0x41, 0x7D]) s1) State.result =
    some (.unstuffed (.malformed .badEscape)) := by decide
/-- V17, lenient. -/
theorem test_unstuff_lenient : after (exec (.unstuff [0x7D, 0x7D, 0x5D])
    { s1 with cfg := { x1 with strictUnstuff := false } }) State.result = some (.unstuffed (.ok [0x5D, 0x5D])) := by decide
/-- V27. -/
theorem test_decode : after (exec (.decode [0x7E, 0x7E, 0x01, 0x7E, 0x7E]) s1) State.result =
    some (.unstuffed (.ok [0x01])) := by decide
/-- V28. -/
theorem test_decode_dangling : after (exec (.decode [0x7D, 0x7E]) s1) State.result =
    some (.unstuffed (.malformed .danglingEscape)) := by decide
/-- V53. -/
theorem test_cmdencode : after (exec (.cmdencode (.motion (.forward 126 125))) s1) State.result =
    some (.bytes [0xA3, 0x10, 0x7E, 0x7D, 0x00]) := by decide
/-- P1, step 4. -/
theorem test_txcmd : after (exec (.txcmd (.motion (.turn 126 45 125))) s1) State.txStream =
    some [0xA3, 0x13, 0x7D, 0x5E, 0x2D, 0x00, 0x7D, 0x5D, 0x7E] := by decide
/-- V78, step 17. -/
theorem test_rxbyte_overrun : after (exec (.rxbyte 0x11) (sMax 2 .accumulatingFrame [1, 2])) rx =
    some (.discarding, [], [.malformed .overrun]) := by decide
/-- V79, step 3. -/
theorem test_rxbyte_discarding : after (exec (.rxbyte 0x7E) (sMax 0 .discarding [])) rx =
    some (.awaitingDelimiter, [], []) := by decide
/-- V61. -/
theorem test_rxchunk : after (exec (.rxchunk [0xA3, 0x01, 0x7E, 0x55, 0xAA, 0xA3, 0x03, 0x7E]) s1) rx =
    some (.awaitingDelimiter, [], [.ready, .unknown [0x55, 0xAA, 0xA3, 0x03]]) := by decide
/-- The example of R149. -/
theorem test_closeframe : after (exec .closeframe (sBuf [0xA3, 0x7D])) rx =
    some (.awaitingDelimiter, [], [.malformed .danglingEscape]) := by decide
theorem test_closeframe_empty : reason (exec .closeframe s1) = some .closeOfEmptyBuffer := by decide
/-- V70. -/
theorem test_classify_short : after (exec (.classify 0xA3 [0x02, 0x01]) s1) State.evOut =
    some [.unknown [0xA3, 0x02, 0x01]] := by decide
/-- V68, MARKER_CHECK false. -/
theorem test_classify_noMarker : after (exec (.classify 0x10 [0x03])
    { s1 with cfg := { x1 with markerCheck := false } }) State.evOut = some [.targetReached] := by decide
/-- V81. -/
theorem test_ticks_reverse : after (exec (.ticks 0 5) s1) State.result = some (.ticks (-5)) := by decide
/-- V87. -/
theorem test_ticks_scaled : after (exec (.ticks 128 2) s1) State.result = some (.ticks 256) := by decide
/-- V91, PADDED8. -/
theorem test_parsefixed : after (exec (.parsefixed 0x23 0x28) s1) State.result = some (.fixed 9000) := by decide
/-- V98, UNPADDED. -/
theorem test_parsefixed_unpadded : after (exec (.parsefixed 0x46 0x50)
    { s1 with cfg := { x1 with headingMode := .unpadded } }) State.result = some (.fixed 9040) := by decide
/-- V95: 3.83 degrees. -/
theorem test_heading : after (exec (.heading 0x01 0x7F) s1) State.result = some (.heading 383 (mkRat 383 100)) := by rfl
/-- V107. -/
theorem test_telemetry : after (exec (.telemetry 1 126 0 125 0x23 0x28) s1) State.result =
    some (.telemetry 126 (-125) 9000) := by decide
/-- R240. -/
theorem test_reset : after (exec .reset (sBuf [0xA3])) rx = some (.awaitingDelimiter, [], []) := by decide
/-- V108. -/
theorem test_issue_bearing : after (exec (.issue (.forward 20 100)) s1) (fun t => (t.txStream, t.pending, t.handles)) =
    some ([0xA3, 0x10, 0x14, 0x64, 0x00, 0x7E], some 0, [.unresolved]) := by decide
/-- V117. -/
theorem test_issue_overlap : reason (exec (.issue (.forward 20 100)) sPending) = some .overlappingCompletion := by decide
/-- R41, U14: the report of the failed write is still to be taken, and the frame is written. -/
theorem test_txcmd_failing : after (exec (.txcmd (.stop (.int 0))) sFailing) (fun t => (t.txStream, t.agenda)) =
    some ([0xA3, 0x15, 0x00, 0x7E], [.transport (.error (Config.freeErrorInfo 0))]) := by
  simp [after, exec, execTxcmd, txCmd, txEmit, reportWrite, agendaWithError, sFailing, s1, State.reset]
  decide
/-- R42, log 24: a called byte is consumed ahead of one that waits. -/
theorem test_call_ahead : after (step { s1 with agenda := [.call (.rxbyte 1)], rxIn := [2] })
    (fun t => (t.rxStream, t.rxIn)) = some ([1], [2]) := by decide
/-- V109. -/
theorem test_ontargetreached : after (exec .ontargetreached sPending)
    (fun t => (t.pending, t.handles, t.notifications)) = some (none, [.resolved], [.targetReached]) := by decide
/-- V110. -/
theorem test_ontargetreached_none : after (exec .ontargetreached s1)
    (fun t => (t.pending, t.handles, t.notifications)) = some (none, [], [.targetReached]) := by decide
/-- V116. -/
theorem test_stopcmd_soft : after (exec (.stopcmd (.int 0)) sPending)
    (fun t => (t.txStream, t.pending, t.result)) = some ([0xA3, 0x15, 0x00, 0x7E], some 0, .resolvesAfter 5) := by decide
/-- V115. -/
theorem test_stopcmd_hard : after (exec (.stopcmd (.bool true)) sPending) State.result = some (.resolvesAfter 0) := by
  decide
/-- R197. -/
theorem test_cancel : after (exec .cancel sPending) (fun t => (t.pending, t.handles, t.txStream)) =
    some (none, [.cancelled], []) := by decide
/-- R200, R241. -/
theorem test_init : after (exec .init (sBuf [0xA3])) (fun t => (t.active, t.initCall, t.rxBuf)) =
    some (true, .waiting, []) := by decide
/-- V118. -/
theorem test_init_active : after (exec .init { sBuf [0xA3] with active := true }) (fun t => (t.rxBuf, t.result)) =
    some ([0xA3], .alreadyOpen) := by decide
/-- R80. -/
theorem test_defaults : Motion.forwardCall 20 = .forward 20 0 ∧ Motion.reverseCall 20 = .reverse 20 0 ∧
    Motion.keepHeadingCall 25 90 = .keepHeading 25 90 0 := ⟨rfl, rfl, rfl⟩
/-- V112. -/
theorem test_route_odometry : after (step { sPending with agenda := [.host], evUnread := [.odometry 1 2 3] })
    (fun t => (t.pending, t.notifications)) = some (some 0, [.odometry 1 2 3]) := by decide
/-- P6, step 2. -/
theorem test_route_ready : after (step { s1 with agenda := [.host], evUnread := [.ready], initCall := .waiting })
    State.initCall = some .ready := by decide
/-- A table pattern runs as the next instruction. -/
theorem test_withFetchWord : after (step (s1.withFetchWord 16 0x7D5E)) State.rxBuf = some [0x7D, 0x5E] := by decide

/- Witnesses: states and operands that meet the hypotheses of the statements, at boundary values of each clause. -/

theorem witness_CommandFramesByDefaultLayout : s1.cfg.layout = Layout.default := rfl
theorem witness_OperandBytes : argOf (.motion (.forward 20 (-1))) .distance = some (.int (-1)) ∧
    x1.signConv.conv (Cmd.motion (.forward 20 (-1))).opcode = some .neg1 ∧ (-1 : Int) < 0 ∧ (0 : Int) ≤ 0 := by decide
theorem witness_CommandEncodeAndTransmit : (Instr.stop (.int 0)).command = some (.stop (.int 0)) ∧
    s1.writeFails = false ∧ sFailing.writeFails = true := by decide
theorem witness_SignFlipChangesOneByte : x1.layout = Layout.default ∧ (1 : Int) ≠ 0 ∧
    (cmdEncode x1 (.motion (.turn 30 1 200)))[4]? ≠ (cmdEncode x1 (.motion (.turn 30 (-1) 200)))[4]? ∧
    (cmdEncode x1 (.motion (.turn 30 1 200)))[5]? = (cmdEncode x1 (.motion (.turn 30 (-1) 200)))[5]? := by decide
theorem witness_LongestCommandFrames : x1.layout = Layout.default ∧ x1.flag = 0x7E ∧ x1.esc = 0x7D ∧
    x1.mask = 0x20 := by decide
theorem witness_StuffFacts : x1.codecValid ∧ stuff x1 [0x7E] = stuff x1 [0x7E] := by decide
theorem witness_EncodeFacts : x1.codecValid ∧ frameEncode x1 [] = frameEncode x1 [] := by decide
theorem witness_CodecRoundTrip : s1.cfg.codecValid := by decide
theorem witness_StrictUnstuffConverse : s1.cfg.codecValid ∧ s1.cfg.strictUnstuff = true ∧
    unstuff x1 [0x7D, 0x5E] = .ok [0x7E] := by decide
theorem witness_StrictUnstuffConverse_lenient : ({ x1 with strictUnstuff := false } : Config).flag = 0x7E ∧
    unstuff { x1 with strictUnstuff := false } [0x7D, 0x41] = .ok [0x61] := by decide
/-- ESC after ESC is a bad escape, and 0x5F is next to the good ones. -/
theorem witness_IllFormedBodyCauses : s1.cfg.codecValid ∧ s1.cfg.strictUnstuff = true ∧
    ∀ e ∈ [(0x7D : Byte), 0x5F, 0x00], e ≠ x1.flag ∧ e ≠ x1.flag ^^^ x1.mask ∧ e ≠ x1.esc ^^^ x1.mask := by decide
theorem witness_DecodeTrims : ([] : List Byte).head? ≠ some x1.flag ∧ [(1 : Byte), 0x7E, 2].head? ≠ some x1.flag ∧
    [(1 : Byte), 0x7E, 2].getLast? ≠ some x1.flag := by decide
/-- Rows 1 and 2 with an unbounded buffer and with MAX_BODY 1, row 3. -/
theorem witness_ReceiveTransitionTable_awaiting : ReceiveInv s1 ∧ ReceiveInv (sMax 1 .awaitingDelimiter []) ∧
    ReceiveInv (sMax 0 .awaitingDelimiter []) ∧ (sMax 1 .awaitingDelimiter []).cfg.maxBody ≠ some 0 ∧
    (0xA3 : Byte) ≠ x1.flag := by decide
/-- Rows 4 and 5: one byte below MAX_BODY, at MAX_BODY; rows 6 and 7: a body of each outcome. -/
theorem witness_ReceiveTransitionTable_accumulating : ReceiveInv (sMax 2 .accumulatingFrame [1]) ∧
    (sMax 2 .accumulatingFrame [1]).cfg.maxBody ≠ some 1 ∧ ReceiveInv (sMax 1 .accumulatingFrame [1]) ∧
    (sMax 1 .accumulatingFrame [1]).cfg.maxBody = some 1 := by decide
theorem witness_ReceiveTransitionTable_closing : ReceiveInv (sBuf [0xA3, 0x01]) ∧
    unstuff x1 [0xA3, 0x01] = .ok [0xA3, 0x01] ∧ ReceiveInv (sBuf [0xA3, 0x7D]) ∧
    unstuff x1 [0xA3, 0x7D] = .malformed .danglingEscape := by decide
/-- Rows 8 and 9. -/
theorem witness_ReceiveTransitionTable_discarding : ReceiveInv (sMax 0 .discarding []) ∧
    ReceiveInv (sMax 16 .discarding []) := by decide
/-- The tags, a wrong marker, an odometry frame one byte short and one just long enough. -/
theorem witness_ClassifyTests : x1.tagsValid ∧ x1.markerCheck = true ∧ (0x10 : Byte) ≠ x1.respMarker ∧
    (0xA3 : Byte) = x1.respMarker ∧ (2 : Byte) = x1.tagOdometry ∧ [(1 : Byte), 2, 3, 4, 5].length < 6 ∧
    frameClass x1 [0xA3, 2, 1, 2, 3, 4, 5, 6] = .odometry 1 2 3 4 5 6 ∧
    ((9 : Byte) ≠ x1.tagReady ∧ (9 : Byte) ≠ x1.tagOdometry ∧ (9 : Byte) ≠ x1.tagTargetReached) := by decide
/-- An unbounded buffer, one that holds exactly the longest body, and unknown frames. -/
theorem witness_ResponseRowsEmit_room : s1.cfg.codecValid ∧ Idle s1 ∧
    (sMax 14 .awaitingDelimiter []).cfg.tagsValid ∧ Idle (sMax 14 .awaitingDelimiter []) ∧
    withinLimit (sMax 14 .awaitingDelimiter []).cfg
      (stuff x1 [0xA3, 2, 0x7E, 0x7E, 0x7E, 0x7E, 0x7D, 0x7D]).length = true := by decide
theorem witness_ResponseRowsEmit : s1.cfg.tagsValid ∧ Instr.wellFormed s1.cfg (.unknown 0xA3 [9]) = true ∧
    Instr.wellFormed s1.cfg (.unknown 0xA3 [2, 1, 2, 3, 4, 5]) = true := by decide
theorem witness_CloseFrameOutcomes : (sBuf [0xA3]).rxBuf ≠ [] ∧ unstuff x1 [0xA3] = .ok [0xA3] ∧
    unstuff x1 [0x7D] = .malformed .danglingEscape ∧ x1.flag ∉ [(0x7D : Byte)] := by decide
/-- With room for exactly the two bytes of a symbol, from an empty buffer and from one with a byte. -/
theorem witness_WireSymbolsAreReceived : (sMax 2 .awaitingDelimiter []).cfg.codecValid ∧
    withinLimit (sMax 2 .awaitingDelimiter []).cfg 2 = true ∧ (sMax 2 .awaitingDelimiter []).rxBuf = [] ∧
    withinLimit (sMax 3 .accumulatingFrame [1]).cfg ([(1 : Byte)].length + 2) = true ∧ (0x5E : Byte) ≠ x1.flag := by
  decide
theorem witness_IllFormedSymbolsAreReported : x1.codecValid ∧ (sBuf [0x7D, 0x5E]).rxBuf = stuff x1 [0x7E] ∧
    s1.rxBuf = stuff x1 [] ∧ withinLimit x1 4 = true ∧ Instr.wellFormed x1 (.badEscape 0x7D) = true ∧
    x1.strictUnstuff = true := by decide
/-- The empty payload, and one that fills a finite buffer. -/
theorem witness_StreamRoundTrip : Idle s1 ∧ x1.codecValid ∧ Idle (sMax 2 .awaitingDelimiter []) ∧
    withinLimit (sMax 2 .awaitingDelimiter []).cfg (stuff x1 [0x7E]).length = true ∧
    withinLimit (sMax 0 .awaitingDelimiter []).cfg (stuff x1 []).length = true := by decide
theorem witness_ResynchronisationTests : Idle s1 ∧ x1.codecValid ∧ ([0xA3, 1] : List Byte) ≠ [] ∧
    x1.flag ∉ [(0x55 : Byte), 0xAA] ∧ withinLimit x1 ([0x55, 0xAA] ++ stuff x1 [0xA3, 3]).length = true ∧
    unstuff x1 ([0x55, 0xAA] ++ stuff x1 [0xA3, 3]) = .ok [0x55, 0xAA, 0xA3, 3] ∧
    unstuff x1 ([0x7D] ++ stuff x1 [0xA3, 3]) = .malformed .badEscape := by decide
theorem witness_SelfSynchronisation : ReceiveInv (sMax 16 .discarding []) ∧ ReceiveInv (sBuf [0x7D]) ∧ x1.codecValid ∧
    ([0xA3, 3] : List Byte) ≠ [] ∧ withinLimit (sMax 16 .discarding []).cfg (stuff x1 [0xA3, 3]).length = true := by decide
/-- One byte too many for a buffer of none and of two. -/
theorem witness_OverrunReportedOnce : ReceiveInv (sMax 0 .discarding []) ∧ Idle (sMax 0 .awaitingDelimiter []) ∧ x1.flag ∉ [(1 : Byte)] ∧
    0 < [(1 : Byte)].length ∧ Idle (sMax 2 .awaitingDelimiter []) ∧ 2 < [(1 : Byte), 2, 3].length := by decide
theorem witness_AtMostOneEventPerByte : ReceiveInv (sBuf [0xA3, 3]) ∧ (0x7E : Byte) = x1.flag ∧
    ReceiveInv (sMax 0 .awaitingDelimiter []) := by decide
theorem witness_MalformedDropsTheFrame :
    after (exec (.rxbyte 0x7E) (sBuf [0x7D])) State.evOut = some ([] ++ [.malformed .danglingEscape]) ∧
    after (exec (.rxbyte 1) (sMax 0 .awaitingDelimiter [])) State.evOut = some ([] ++ [.malformed .overrun]) := by decide
theorem witness_ReceiveReadsOnlyItsState : s1.cfg = sPending.cfg ∧ s1.rxState = sPending.rxState ∧
    s1.rxBuf = sPending.rxBuf ∧ s1.pending ≠ sPending.pending := by decide
theorem witness_ReceiveFrame : Instr.format .ready = .rsp ∧ (∃ t, exec .ready s1 = .next t) ∧
    Instr.format .delimiter = .wire ∧ (∃ t, exec .delimiter s1 = .next t) ∧
    (∃ t, exec .closeframe (sBuf [1]) = .next t) :=
  ⟨rfl, ⟨_, rfl⟩, rfl, ⟨_, rfl⟩, ⟨_, rfl⟩⟩
/-- The digit counts at both ends of two ranges, and the modes. -/
theorem witness_ParseFixedClosedForms : x1.headingMode = .padded8 ∧
    ({ x1 with headingMode := .unpadded } : Config).headingMode = .unpadded ∧
    (1 = if (1 : Byte).toNat < 2 then 1 else Nat.log2 (1 : Byte).toNat + 1) ∧
    (2 = if (2 : Byte).toNat < 2 then 1 else Nat.log2 (2 : Byte).toNat + 1) ∧
    (7 = if (127 : Byte).toNat < 2 then 1 else Nat.log2 (127 : Byte).toNat + 1) ∧
    (8 = if (128 : Byte).toNat < 2 then 1 else Nat.log2 (128 : Byte).toNat + 1) := by decide
/-- A bearing and another command, with the slot free and taken, writes failing or not. -/
theorem witness_IssueWritesAndTakesTheSlot : bearing (.forward 20 1) = true ∧ bearing (.forward 20 0) = false ∧
    s1.pending = none ∧ sPending.pending ≠ none ∧ s1.writeFails = false ∧
    sFailing.writeFails = true := by decide
theorem witness_TargetReachedResolvesPending : sPending.pending = some 0 ∧ s1.pending = none := by decide
theorem witness_IssuedCommandCompletes : bearing (.rotate 20 (-90)) = true ∧ s1.pending = none := by decide
theorem witness_FailedWriteLeavesResultFree : sFailing.writeFails = true ∧ bearing (.reverse 20 5) = true ∧
    bearing .resetOrientation = false ∧ sFailing.pending = none ∧
    (0 = if truth (.int 7) = true then 0 else x1.settleDelay) := by decide
theorem witness_CancelFreesTheSlot : sPending.pending = some 0 := by decide
theorem witness_CallsOutsideTheirPrecondition : s1.rxBuf = [] ∧ s1.pending = none := by decide
theorem witness_StopCallDelay : s1.writeFails = false ∧ (0 = if truth (.int 7) = true then 0 else x1.settleDelay) ∧
    (5 = if truth (.bool false) = true then 0 else x1.settleDelay) := by decide
theorem witness_InitStartsOrIsRejected : s1.active = false ∧ ({ s1 with active := true } : State).active = true := by
  decide
theorem witness_TransportPassesTheBlock :
    (∃ t, step { s1 with agenda := [.transport (.error 3)], initCall := .waiting } = .next t) ∧
    (∃ t, step { s1 with agenda := [.transport .close] } = .next t) ∧
    (∃ t, step { s1 with agenda := [.transport .disconnect], active := true } = .next t) := ⟨⟨_, rfl⟩, ⟨_, rfl⟩, ⟨_, rfl⟩⟩
theorem witness_EventsAreRouted :
    ∀ e ∈ [Event.targetReached, .odometry 1 2 3, .ready, .unknown [1], .malformed .overrun],
      ({ s1 with agenda := [.host], evUnread := [e] } : State).agenda = .host :: [] ∧
      ({ s1 with agenda := [.host], evUnread := [e] } : State).evUnread = e :: [] := by decide
theorem witness_StepRunsTheInstruction : decode x1 .wire [0x7D, 0x5E, 0x01] = .ok (.escapedFlag, [0x01]) ∧
    decode x1 .wire [0x01] = .ok (.literal 0x01, []) ∧ decode x1 .wire [0x7D] = .error .truncated ∧
    tableFormat x1 16 (tableBytes 16 0xA320) = .cmd ∧
    decode x1 .cmd (tableBytes 16 0xA320) = .ok (.resetOrientation, [0, 0, 0, 0, 0, 0]) := ⟨rfl, rfl, rfl, rfl, rfl⟩
theorem witness_StepTakesTheTurn : s1.evUnread = [] ∧ ({ s1 with cmdIn := [.stop (.int 0)], agenda := [.tx] } : State).cmdIn ≠ [] ∧
    ({ s1 with rxIn := [1], agenda := [.rx] } : State).rxIn ≠ [] ∧ s1.cmdIn = [] ∧ s1.rxIn = [] ∧ s1.agenda = [] := by
  decide
/-- Every format, at the ends of the operands' ranges. -/
theorem witness_DecodeEncodeRoundTrip : x1.codecValid ∧ x1.tagsValid ∧ x1.layout = Layout.default ∧
    Instr.wellFormed x1 (.turn 255 (-255) 0) = true ∧ encode x1 (.turn 255 (-255) 0) = some [0xA3, 0x13, 255, 255, 1, 0] ∧
    Instr.wellFormed x1 (.literal 0xFF) = true ∧ encode x1 (.literal 0xFF) = some [0xFF] ∧
    Instr.wellFormed x1 (.unknown 0xA3 []) = true ∧ encode x1 (.unknown 0xA3 []) = some [0xA3] := by decide
theorem witness_DecodedInstructionsAreWellFormed : x1.layout = Layout.default ∧
    decode x1 .cmd [0xA3, 0x15, 0x00, 0x7E] = .ok (.stop (.bool false), [0x7E]) ∧
    decode x1 .wire [0x7D, 0x7E, 0x01] = .ok (.danglingEscape, [0x01]) ∧
    decode x1 .rsp [0x00] = .ok (.unknown 0x00 [], []) := ⟨rfl, rfl, rfl, rfl⟩
/-- The ends of the three ranges. -/
theorem witness_UnassignedOpcodesRefused :
    (∀ b ∈ [(0x00 : Byte), 0x0F, 0x17, 0x1F, 0x21, 0xFF],
      b.toNat ≤ 0x0F ∨ 0x17 ≤ b.toNat ∧ b.toNat ≤ 0x1F ∨ 0x21 ≤ b.toNat) ∧
    (cmdEncode x1 (.stop (.int 0)))[1]? = some 0x15 := by decide
/-- A byte that overruns the buffer is about to be received. -/
def sOverrun : State := { sMax 1 .accumulatingFrame [1] with rxIn := [2], agenda := [.rx] }

/-- One handle is settled, another is about to be cancelled. -/
def sCancel : State :=
  { s1 with pending := some 1, handles := [.resolved, .unresolved], agenda := [.call .cancel] }

theorem witness_StepKeepsReceiveInv : ReceiveInv sOverrun ∧ ∃ t, step sOverrun = .next t := ⟨by decide, ⟨_, rfl⟩⟩
theorem witness_StepKeepsEventInv : ReceiveInv sOverrun ∧ EventInv sOverrun ∧ ∃ t, step sOverrun = .next t :=
  ⟨by decide, by decide, ⟨_, rfl⟩⟩
theorem witness_StepKeepsCorrelatorInv : CorrelatorInv sCancel ∧ ∃ t, step sCancel = .next t := ⟨by decide, ⟨_, rfl⟩⟩
theorem witness_HandlesSettleOnce : CorrelatorInv sCancel ∧ (∃ t, step sCancel = .next t) ∧ 0 < sCancel.handles.length ∧
    sCancel.handles[0]? ≠ some .unresolved := ⟨by decide, ⟨_, rfl⟩, by decide, by decide⟩
theorem witness_ParametersNeverChange : ∃ t, step sOverrun = .next t := ⟨_, rfl⟩
theorem witness_StreamsOnlyGrow : ∃ t, step sOverrun = .next t := ⟨_, rfl⟩
theorem witness_WhoWritesWhat : (∃ t, exec (.stopcmd (.bool true)) sPending = .next t) ∧
    (∃ t, step { sPending with agenda := [.tx], cmdIn := [.stop (.int 0)] } = .next t) ∧
    (∃ t, step { sPending with agenda := [.host], evUnread := [.ready] } = .next t) ∧
    (∃ t, step { sPending with agenda := [.transport .close], active := true } = .next t) ∧
    (∃ t, step sPending = .next t) ∧ sPending.agenda = [] :=
  ⟨⟨_, rfl⟩, ⟨_, rfl⟩, ⟨_, rfl⟩, ⟨_, rfl⟩, ⟨_, rfl⟩, rfl⟩

end Sys2Proof.Tests
end

section
/-! What one instruction and one turn do, said once each, and from it who writes RX_STATE, RX_BUF, PENDING, the handles
and ACTIVE (10_state.md R21, R36; 44_host_correlator.md R192 to R201). -/

namespace Sys2Proof.Machine

section Frames
/-! What the shared operations leave of these five fields. -/

variable (s : State)

@[simp] theorem closeFrame_pending : (closeFrame s).pending = s.pending := by
  rcases closeFrame_cases s with ⟨_, _, h⟩ | ⟨_, _, h⟩ <;> simp [h]

@[simp] theorem closeFrame_handles : (closeFrame s).handles = s.handles := by
  rcases closeFrame_cases s with ⟨_, _, h⟩ | ⟨_, _, h⟩ <;> simp [h]

@[simp] theorem closeFrame_active : (closeFrame s).active = s.active := by
  rcases closeFrame_cases s with ⟨_, _, h⟩ | ⟨_, _, h⟩ <;> simp [h]

@[simp] theorem rxByte_pending (b : Byte) : (rxByte b s).pending = s.pending := by rw [rxByte_frame]

@[simp] theorem rxByte_handles (b : Byte) : (rxByte b s).handles = s.handles := by rw [rxByte_frame]

@[simp] theorem rxByte_active (b : Byte) : (rxByte b s).active = s.active := by rw [rxByte_frame]

@[simp] theorem rxChunk_pending (c : List Byte) : (rxChunk c s).pending = s.pending := by
  rw [rxChunk_frame]

@[simp] theorem rxChunk_handles (c : List Byte) : (rxChunk c s).handles = s.handles := by
  rw [rxChunk_frame]

@[simp] theorem rxChunk_active (c : List Byte) : (rxChunk c s).active = s.active := by
  rw [rxChunk_frame]

/-- A chunk of one byte is that byte (R148). -/
theorem rxChunk_singleton (b : Byte) : rxChunk [b] s = rxByte b s := rfl

@[simp] theorem returnAfterWrite_rxState (r : Result) : (returnAfterWrite r s).rxState = s.rxState := by
  rw [returnAfterWrite_frame]

@[simp] theorem returnAfterWrite_rxBuf (r : Result) : (returnAfterWrite r s).rxBuf = s.rxBuf := by
  rw [returnAfterWrite_frame]

@[simp] theorem returnAfterWrite_pending (r : Result) : (returnAfterWrite r s).pending = s.pending := by
  rw [returnAfterWrite_frame]

@[simp] theorem returnAfterWrite_handles (r : Result) : (returnAfterWrite r s).handles = s.handles := by
  rw [returnAfterWrite_frame]

@[simp] theorem returnAfterWrite_active (r : Result) : (returnAfterWrite r s).active = s.active := by
  rw [returnAfterWrite_frame]

@[simp] theorem closeHandle_rxState (k : HandleCond) : (closeHandle k s).rxState = s.rxState := by
  rcases closeHandle_cases k s with ⟨_, h⟩ | ⟨_, _, h⟩ <;> rw [h]

@[simp] theorem closeHandle_rxBuf (k : HandleCond) : (closeHandle k s).rxBuf = s.rxBuf := by
  rcases closeHandle_cases k s with ⟨_, h⟩ | ⟨_, _, h⟩ <;> rw [h]

@[simp] theorem closeHandle_active (k : HandleCond) : (closeHandle k s).active = s.active := by
  rcases closeHandle_cases k s with ⟨_, h⟩ | ⟨_, _, h⟩ <;> rw [h]

/-- The reaction to TargetReached settles the pending handle and publishes (R195). -/
theorem onTargetReached_eq : onTargetReached s = publish .targetReached (closeHandle .resolved s) := rfl

/-- Ending an INIT call writes its record and nothing else (R200). -/
theorem endInit_frame (r : InitCall) : endInit r s = { s with initCall := (endInit r s).initCall } := by
  rcases endInit_cases r s with ⟨_, h⟩ | ⟨_, h⟩ <;> rw [h]

@[simp] theorem endInit_rxState (r : InitCall) : (endInit r s).rxState = s.rxState := by rw [endInit_frame]

@[simp] theorem endInit_rxBuf (r : InitCall) : (endInit r s).rxBuf = s.rxBuf := by rw [endInit_frame]

@[simp] theorem endInit_pending (r : InitCall) : (endInit r s).pending = s.pending := by rw [endInit_frame]

@[simp] theorem endInit_handles (r : InitCall) : (endInit r s).handles = s.handles := by rw [endInit_frame]

@[simp] theorem endInit_active (r : InitCall) : (endInit r s).active = s.active := by rw [endInit_frame]

end Frames

/-- The receive agent's own state is the same (R21). -/
def SameReceive (s t : State) : Prop := t.rxState = s.rxState ∧ t.rxBuf = s.rxBuf

/-- The correlator's own state is the same (R191). -/
def SameCorrelator (s t : State) : Prop := t.pending = s.pending ∧ t.handles = s.handles

/-- Routing an event to the host is no concern of the receive agent (R36, R217). -/
theorem routeEvent_sameReceive (e : Event) (s : State) : SameReceive s (routeEvent e s) := by
  cases e <;> simp [SameReceive, routeEvent, onTargetReached_eq]

/-- Of the routed events only TargetReached is for the correlator (R195, R217). -/
theorem routeEvent_sameCorrelator {e : Event} (he : e ≠ .targetReached) (s : State) :
    SameCorrelator s (routeEvent e s) := by
  cases e with
  | targetReached => exact absurd rfl he
  | ready | odometry | unknown | malformed => simp [SameCorrelator, routeEvent]

theorem routeEvent_active (e : Event) (s : State) : (routeEvent e s).active = s.active := by
  cases e <;> simp [routeEvent, onTargetReached_eq]

/-- A transport notification leaves the receive agent and, as the model chooses (93 U15; log 19), the correlator. -/
theorem transportNote_sameReceive (n : TransportNote) (s : State) : SameReceive s (transportNote n s) := by
  rcases transportNote_cases n s with ⟨_, _, h⟩ | ⟨_, h⟩ <;> simp [SameReceive, h]

theorem transportNote_sameCorrelator (n : TransportNote) (s : State) : SameCorrelator s (transportNote n s) := by
  rcases transportNote_cases n s with ⟨_, _, h⟩ | ⟨_, h⟩ <;> simp [SameCorrelator, h]

/-! The effect of an instruction. -/

/-- The instruction hands bytes to the receive agent: a WIRE or RSP row, RXBYTE or RXCHUNK. -/
def Receives (i : Instr) : Prop :=
  i.format = .wire ∨ i.format = .rsp ∨ (∃ b, i = .rxbyte b) ∨ ∃ c, i = .rxchunk c

/-- What an instruction that answers a next state has done, by the shared operation it stands on. -/
inductive ExecEffect (s : State) : Instr → State → Prop where
  /-- A pure function's value, or INIT's rejection. -/
  | returns (i : Instr) (r : Result) : ExecEffect s i (setResult r s)
  | receives {i : Instr} (hi : Receives i) (bs : List Byte) : ExecEffect s i (rxChunk bs s)
  | closes (hb : s.rxBuf ≠ []) : ExecEffect s .closeframe (closeFrame s)
  | classifies (first : Byte) (rest : List Byte) :
      ExecEffect s (.classify first rest) (classify (first :: rest) s)
  | sends (c : Cmd) : ExecEffect s (.txcmd c) (txCmd c s)
  | resets : ExecEffect s .reset (resetBlock s)
  /-- A bearing command takes the free PENDING (R192, R198). -/
  | issuesBearing (m : Motion) (hm : bearing m = true) (hp : s.pending = none) :
      ExecEffect s (.issue m) (returnAfterWrite (.handle s.handles.length) (openHandle (txCmd (.motion m) s)))
  | issuesOther (m : Motion) (hm : bearing m = false) :
      ExecEffect s (.issue m)
        (returnAfterWrite (.immediate (Config.returnsNothing m.opcode)) (txCmd (.motion m) s))
  | reacts : ExecEffect s .ontargetreached (onTargetReached s)
  | stops (hard : ArgValue) :
      ExecEffect s (.stopcmd hard) (returnAfterWrite (.resolvesAfter (stopDelay s.cfg hard))
        (startStopCall (stopDelay s.cfg hard) (txCmd (.stop hard) s)))
  | cancels : ExecEffect s .cancel (closeHandle .cancelled s)
  /-- INIT on a connection that is not active (R200). -/
  | begins (ha : s.active = false) : ExecEffect s .init (beginInit (resetBlock (flush s)))

/-- The inversion of `exec`: an instruction that answers a next state has one of the effects above. -/
theorem exec_effect {i : Instr} {s t : State} (h : exec i s = .next t) : ExecEffect s i t := by
  cases i with
  | forward | reverse | rotate | turn | driveRaw | stop | keepHeading | resetOrientation | cmdencode
  | stuff | encode | unstuff | decode | ticks | parsefixed | heading | telemetry =>
    cases h; exact .returns _ _
  | ready | odometry | targetReached | unknown =>
    cases h; exact .receives (.inr (.inl rfl)) _
  | delimiter | literal =>
    cases h; rw [← rxChunk_singleton]; exact .receives (.inl rfl) _
  | escapedFlag | escapedEsc | badEscape | danglingEscape =>
    cases h; exact .receives (.inl rfl) _
  | rxbyte b => cases h; rw [← rxChunk_singleton]; exact .receives (.inr (.inr (.inl ⟨b, rfl⟩))) _
  | rxchunk c => cases h; exact .receives (.inr (.inr (.inr ⟨c, rfl⟩))) _
  | closeframe =>
    simp only [exec, execCloseframe] at h
    split at h
    · cases h
    · cases h; exact .closes ‹_›
  | classify first rest => cases h; exact .classifies first rest
  | txcmd c => cases h; exact .sends c
  | reset => cases h; exact .resets
  | issue m =>
    rcases execIssue_cases h with ⟨hm, hp, rfl⟩ | ⟨hm, rfl⟩
    · exact .issuesBearing m hm hp
    · exact .issuesOther m hm
  | ontargetreached => cases h; exact .reacts
  | stopcmd hard => cases h; exact .stops hard
  | cancel => cases h; exact .cancels
  | init =>
    simp only [exec, execInit] at h
    split at h
    · cases h; exact .returns _ _
    · rename_i ha
      cases h
      exact .begins (Bool.eq_false_of_not_eq_true ha)

namespace ExecEffect

variable {i : Instr} {s t : State}

/-- Only the receiving instructions, CLOSEFRAME, RESET and INIT write RX_STATE or RX_BUF (R36, R240, R241). -/
theorem sameReceive (h : ExecEffect s i t) (hrx : ¬ Receives i) (hclose : i ≠ .closeframe) (hreset : i ≠ .reset)
    (hinit : i ≠ .init) : SameReceive s t := by
  cases h with
  | receives hi => exact absurd hi hrx
  | closes => exact absurd rfl hclose
  | resets => exact absurd rfl hreset
  | begins => exact absurd rfl hinit
  | returns | classifies | sends | issuesBearing | issuesOther | stops | cancels => simp [SameReceive]
  | reacts => simp [SameReceive, onTargetReached_eq]

/-- Only ISSUE, ONTARGETREACHED and CANCEL write PENDING or a handle (R192, R195, R197). -/
theorem sameCorrelator (h : ExecEffect s i t) (hissue : ∀ m, i ≠ .issue m) (hreact : i ≠ .ontargetreached)
    (hcancel : i ≠ .cancel) : SameCorrelator s t := by
  cases h with
  | issuesBearing m | issuesOther m => exact absurd rfl (hissue m)
  | reacts => exact absurd rfl hreact
  | cancels => exact absurd rfl hcancel
  | returns | receives | closes | classifies | sends | resets | stops | begins => simp [SameCorrelator]

/-- Only INIT writes ACTIVE (R200, R201). -/
theorem active_eq (h : ExecEffect s i t) (hinit : i ≠ .init) : t.active = s.active := by
  cases h with
  | begins => exact absurd rfl hinit
  | returns | receives | closes | classifies | sends | resets | issuesBearing | issuesOther | stops | cancels => simp
  | reacts => simp [onTargetReached_eq]

end ExecEffect

/-! The effect of a turn that is no call and no encoded item. -/

/-- What such a turn has done, on the state `s` from whose agenda it is already taken. -/
inductive TurnEffect (s : State) : Turn → State → Prop where
  /-- TX, RX or the host found nothing to take (R240). -/
  | waits (turn : Turn) : TurnEffect s turn s
  | delivers (chunk : List Byte) : TurnEffect s (.deliver chunk) { s with rxIn := s.rxIn ++ chunk }
  | submits (c : Cmd) : TurnEffect s (.submit c) { s with cmdIn := s.cmdIn ++ [c] }
  | sends {c : Cmd} {cs : List Cmd} (hc : s.cmdIn = c :: cs) : TurnEffect s .tx (txCmd c { s with cmdIn := cs })
  | receives {b : Byte} {bs : List Byte} (hb : s.rxIn = b :: bs) : TurnEffect s .rx (rxByte b { s with rxIn := bs })
  | reacts {es : List Event} (he : s.evUnread = .targetReached :: es) :
      TurnEffect s .host (onTargetReached { s with evUnread := es })
  | routes {e : Event} {es : List Event} (he : s.evUnread = e :: es) (hne : e ≠ .targetReached) :
      TurnEffect s .host (routeEvent e { s with evUnread := es })
  | notes (n : TransportNote) : TurnEffect s (.transport n) (transportNote n s)
  | setsWrites (fail : Bool) : TurnEffect s (.writes fail) { s with writeFails := fail }
  | elapses (d : Nat) : TurnEffect s (.elapse d) (elapse d s)

/-- A turn that ends without running an instruction. -/
theorem fetchTurn_done {turn : Turn} {s t : State} (hcall : ∀ i, turn ≠ .call i)
    (henc : ∀ f bs, turn ≠ .encoded f bs) (h : fetchTurn turn s = .done t) : TurnEffect s turn t := by
  cases turn with
  | deliver chunk => cases h; exact .delivers chunk
  | submit c => cases h; exact .submits c
  | tx =>
    simp only [fetchTurn, fetchTx] at h
    split at h <;> cases h
    exact .waits _
  | rx =>
    simp only [fetchTurn, fetchRx] at h
    split at h <;> cases h
    exact .waits _
  | host =>
    simp only [fetchTurn, fetchEvent] at h
    split at h
    · cases h; exact .waits _
    · cases h
    · rename_i e es hne he
      cases h
      exact .routes he hne
  | transport n => cases h; exact .notes n
  | writes fail => cases h; exact .setsWrites fail
  | elapse d => cases h; exact .elapses d
  | call i => exact absurd rfl (hcall i)
  | encoded f bs => exact absurd rfl (henc f bs)

/-- The inversion of `step` for a turn that is no call and no encoded item. -/
theorem step_turnEffect {s t : State} {turn : Turn} {ts : List Turn} (ha : s.agenda = turn :: ts)
    (hcall : ∀ i, turn ≠ .call i) (henc : ∀ f bs, turn ≠ .encoded f bs) (h : step s = .next t) :
    TurnEffect { s with agenda := ts } turn t := by
  rcases step_cases h with hd | ⟨i, u, hr, hx⟩
  · exact fetchTurn_done hcall henc (fetchNext_cons ha ▸ hd)
  · rw [fetchNext_cons ha] at hr
    rcases fetchTurn_run hr with ⟨c, cs, rfl, hc, rfl, rfl⟩ | ⟨b, bs, rfl, hb, rfl, rfl⟩ | ⟨es, rfl, he, rfl, rfl⟩ |
      ⟨rfl, -⟩ | ⟨f, bs, -, rfl, -, -⟩
    · cases hx; exact .sends hc
    · cases hx; exact .receives hb
    · cases hx; exact .reacts he
    · exact absurd rfl (hcall i)
    · exact absurd rfl (henc f bs)

namespace TurnEffect

variable {turn : Turn} {s t : State}

/-- Only RX's turn writes RX_STATE or RX_BUF (R36). -/
theorem sameReceive (h : TurnEffect s turn t) (hrx : turn ≠ .rx) : SameReceive s t := by
  cases h with
  | receives => exact absurd rfl hrx
  | waits | delivers | submits | sends | setsWrites | elapses => simp [SameReceive]
  | reacts => simp [SameReceive, onTargetReached_eq]
  | routes => exact routeEvent_sameReceive _ _
  | notes n => exact transportNote_sameReceive n s

/-- Only the host's turn with a TargetReached at the head of the unread events writes PENDING or a handle (R195). -/
theorem sameCorrelator (h : TurnEffect s turn t) (hev : turn ≠ .host ∨ s.evUnread.head? ≠ some .targetReached) :
    SameCorrelator s t := by
  cases h with
  | reacts he => simp [he] at hev
  | waits | delivers | submits | sends | receives | setsWrites | elapses => simp [SameCorrelator]
  | routes _ hne => exact routeEvent_sameCorrelator hne _
  | notes n => exact transportNote_sameCorrelator n s

/-- A close or disconnect may clear ACTIVE (93 U16; log 14), and no such turn writes it otherwise. -/
theorem active_eq_or (h : TurnEffect s turn t) :
    t.active = s.active ∨ (turn = .transport .close ∨ turn = .transport .disconnect) ∧
      t.active = (s.active && Config.freeStaysActive s.freeCount) := by
  cases h with
  | waits | delivers | submits | sends | receives | setsWrites | elapses => exact .inl (by simp)
  | reacts => exact .inl (by simp [onTargetReached_eq])
  | routes => exact .inl (routeEvent_active _ _)
  | notes n =>
    rcases transportNote_cases n s with ⟨_, _, h⟩ | ⟨hn, h⟩
    · exact .inl (by simp [h])
    · exact .inr ⟨by simpa using hn, by simp [h]⟩

end TurnEffect

/-- With an empty agenda the machine waits (R240). -/
theorem step_of_agenda_nil {s t : State} (ha : s.agenda = []) (h : step s = .next t) : t = s := by
  rw [step_of_done (fetchNext_nil ha)] at h
  cases h
  rfl

/-- Settles O1: the reset state is a literal, read field by field. -/
theorem resetStateIsEmpty : Obligations.ResetStateIsEmpty := ⟨rfl, rfl, rfl, rfl, rfl, rfl, rfl⟩

/-- Settles O59: each field's writers are read off the effects of the instructions and of the turns. -/
theorem whoWritesWhat : Obligations.WhoWritesWhat := by
  refine ⟨fun i s t h => ?_, fun s t turn ts ha hcall henc h => ?_, fun s t => step_of_agenda_nil⟩
  · have hx := exec_effect h
    refine ⟨fun hwire hrsp hbyte hchunk hclose hreset hinit => ?_, hx.sameCorrelator, hx.active_eq⟩
    refine hx.sameReceive ?_ hclose hreset hinit
    rintro (hi | hi | ⟨b, hi⟩ | ⟨c, hi⟩)
    · exact hwire hi
    · exact hrsp hi
    · exact hbyte b hi
    · exact hchunk c hi
  · have ht := step_turnEffect ha hcall henc h
    refine ⟨ht.sameReceive, ht.sameCorrelator, fun hclose hdisc => ?_, fun hactive => ?_⟩
    · exact ht.active_eq_or.resolve_right fun ⟨hturn, _⟩ => hturn.elim hclose hdisc
    · rcases ht.active_eq_or with hsame | ⟨_, hdrop⟩
      · exact hsame.symm.trans hactive
      · rw [hdrop, Bool.and_eq_true] at hactive
        exact hactive.1

end Sys2Proof.Machine
end

section
/-! The frames of the commands: what a CMD row returns, the bytes under the default LAYOUT, and the opcode map read in
both directions (30_encoding.md R71, R75; 41_command_encoder.md R110, R117). -/

namespace Sys2Proof.Machine

/-! The CMD rows. -/

/-- Every CMD row answers the decoded frame of its command and changes nothing else (R110). -/
theorem exec_of_command {i : Instr} {cmd : Cmd} (h : i.command = some cmd) (s : State) :
    exec i s = .next { s with result := .bytes (cmdEncode s.cfg cmd) } := by
  cases i with
  | forward | reverse | rotate | turn | driveRaw | stop | keepHeading | resetOrientation => cases h; rfl
  | _ => cases h

/-- The decoded frame of a command, byte by byte as R71 lists it, under the signs `t`. -/
def defaultFrame (t : SignTable) : Cmd → List Byte
  | .motion (.forward speed distance) => [0xA3, 0x10, u8 speed, mag distance, dirByte t.forward distance]
  | .motion (.reverse speed distance) => [0xA3, 0x11, u8 speed, mag distance, dirByte t.reverse distance]
  | .motion (.rotate speed angle) => [0xA3, 0x12, u8 speed, mag angle, dirByte t.rotate angle]
  | .motion (.turn speed angle radius) => [0xA3, 0x13, u8 speed, mag angle, dirByte t.turn angle, u8 radius]
  | .motion (.driveRaw left right) => [0xA3, 0x14, u8 left, u8 right]
  | .stop hard => [0xA3, 0x15, boolByte hard]
  | .motion (.keepHeading speed heading distance) =>
    [0xA3, 0x16, u8 speed, mag heading, dirByte t.keepHeading heading, mag distance, dirByte t.keepHeading distance]
  | .motion .resetOrientation => [0xA3, 0x20]

/-- The generic encoder over the default table gives the frames of R71 (R116, R117). -/
theorem cmdEncode_of_defaultLayout {c : Config} (hl : c.layout = Layout.default) (cmd : Cmd) :
    cmdEncode c cmd = defaultFrame c.signConv cmd := by
  rw [cmdEncode, hl]
  cases cmd with
  | stop => rfl
  | motion m =>
    cases m with
    | forward | reverse | rotate | turn | driveRaw | keepHeading | resetOrientation => rfl

/-- A CMD row under the default LAYOUT. -/
theorem exec_of_defaultLayout {s : State} (hl : s.cfg.layout = Layout.default) {i : Instr} (cmd : Cmd)
    (h : i.command = some cmd) :
    exec i s = .next { s with result := .bytes (defaultFrame s.cfg.signConv cmd) } := by
  rw [exec_of_command h, cmdEncode_of_defaultLayout hl]

/-! The opcode map. -/

/-- Where the opcode bytes lie (R70). -/
theorem opcodeByte_range (op : Opcode) :
    0x10 ≤ (opcodeByte op).toNat ∧ (opcodeByte op).toNat ≤ 0x16 ∨ (opcodeByte op).toNat = 0x20 := by
  cases op <;> decide

theorem opcodeOf_eq_some_iff {b : Byte} {op : Opcode} : opcodeOf b = some op ↔ opcodeByte op = b := by
  constructor
  · intro h
    exact eq_of_beq (List.find?_some (p := fun o => opcodeByte o == b) h)
  · rintro rfl
    cases op <;> rfl

/-- Outside the range of the opcode bytes the map has no entry (R75). -/
theorem opcodeOf_eq_none {b : Byte}
    (hb : b.toNat ≤ 0x0F ∨ 0x17 ≤ b.toNat ∧ b.toNat ≤ 0x1F ∨ 0x21 ≤ b.toNat) : opcodeOf b = none := by
  rw [Option.eq_none_iff_forall_ne_some]
  intro op hop
  have hrange := opcodeByte_range op
  rw [opcodeOf_eq_some_iff.mp hop] at hrange
  omega

/-- The encoder writes the opcode's byte at index 1 (R111). -/
theorem cmdEncode_getElem?_one (c : Config) (cmd : Cmd) : (cmdEncode c cmd)[1]? = some (opcodeByte cmd.opcode) := rfl

/-- The decoder names a byte that the opcode map does not hold (93 U9; log 8). -/
theorem decodeCmd_of_opcodeOf_none (c : Config) {b : Byte} (hb : opcodeOf b = none) (rest : List Byte) :
    decodeCmd c (Config.startMarker :: b :: rest) = .error (.unassignedOpcode b) := by
  simp [decodeCmd, hb]

/-- Settles O51: the decoder finds no opcode for such a byte, and byte 1 of every encoded frame is an opcode's. -/
theorem unassignedOpcodesRefused : Obligations.UnassignedOpcodesRefused := by
  refine ⟨fun c b rest hb => decodeCmd_of_opcodeOf_none c (opcodeOf_eq_none hb) rest, fun c cmd b hb => ?_⟩
  rw [cmdEncode_getElem?_one, Option.some.injEq] at hb
  exact hb ▸ opcodeByte_range cmd.opcode

/-- Settles O4: each CMD row is an instance of the encoder, and the default table makes its frame that of R71. -/
theorem commandFramesByDefaultLayout : Obligations.CommandFramesByDefaultLayout := fun _ hl =>
  ⟨fun speed distance => exec_of_defaultLayout hl (.motion (.forward speed distance)) rfl,
    fun speed distance => exec_of_defaultLayout hl (.motion (.reverse speed distance)) rfl,
    fun speed angle => exec_of_defaultLayout hl (.motion (.rotate speed angle)) rfl,
    fun speed angle radius => exec_of_defaultLayout hl (.motion (.turn speed angle radius)) rfl,
    fun left right => exec_of_defaultLayout hl (.motion (.driveRaw left right)) rfl,
    fun hard => exec_of_defaultLayout hl (.stop hard) rfl,
    fun speed heading distance => exec_of_defaultLayout hl (.motion (.keepHeading speed heading distance)) rfl,
    exec_of_defaultLayout hl (.motion .resetOrientation) rfl⟩

end Sys2Proof.Machine
end

section
/-! The frame codec: what STUFF writes, that UNSTUFF and DECODE read it back, and that strict UNSTUFF accepts nothing
else (40_frame_codec.md R90 to R101). -/

namespace Sys2Proof.Machine

section Codec

variable {c : Config}

/-! STUFF and ENCODE. -/

/-- The symbol of each byte (R62). -/
theorem symbol_eq_ite (d : Byte) : symbol c d = if d = c.flag then [c.esc, c.flag ^^^ c.mask]
    else if d = c.esc then [c.esc, c.esc ^^^ c.mask] else [d] := by
  split_ifs with hf he
  · rw [symbol_reserved c (.inl hf), hf]
  · rw [symbol_reserved c (.inr he), he]
  · exact symbol_plain c hf he

theorem length_symbol (d : Byte) : (symbol c d).length = 1 + if reserved c d then 1 else 0 := by
  unfold symbol
  split_ifs <;> rfl

/-- Neither half of an escape is FLAG, by the constraints on MASK (R9, R94). -/
theorem flag_notMem_symbol (h : c.codecValid) (d : Byte) : c.flag ∉ symbol c d := by
  obtain ⟨hfe, -, hff, -, hef, -⟩ := h
  rw [symbol_eq_ite]
  split_ifs with hf
  · simp [hfe, hff.symm]
  · simp [hfe, hef.symm]
  · simpa using Ne.symm hf

theorem flag_notMem_stuff (h : c.codecValid) (p : List Byte) : c.flag ∉ stuff c p := by
  induction p with
  | nil => simp
  | cons d p ih => simpa [ih] using flag_notMem_symbol h d

theorem stuff_append (p q : List Byte) : stuff c (p ++ q) = stuff c p ++ stuff c q := List.flatMap_append

theorem length_stuff (p : List Byte) : (stuff c p).length = p.length + p.countP (reserved c) := by
  induction p with
  | nil => rfl
  | cons d p ih =>
    rw [stuff_cons, List.length_append, length_symbol, ih, List.length_cons, List.countP_cons]
    omega

/-- UNSTUFF is a left inverse of STUFF (R100). -/
theorem unstuff_stuff (h : c.codecValid) (p : List Byte) : unstuff c (stuff c p) = .ok p := by
  have hread := unstuff_stuff_append c h p []
  rwa [unstuff_nil, foldr_consByte_ok, List.append_nil, List.append_nil] at hread

theorem stuff_injective (h : c.codecValid) : Function.Injective (stuff c) := fun p q hpq => by
  have hok : Unstuffed.ok p = .ok q := by rw [← unstuff_stuff h p, hpq, unstuff_stuff h q]
  exact Unstuffed.ok.inj hok

theorem frameEncode_injective (h : c.codecValid) : Function.Injective (frameEncode c) := fun _ _ hpq =>
  stuff_injective h (List.append_cancel_right hpq)

/-! DECODE. -/

theorem dropFlags_replicate_append (m : Nat) (w : List Byte) :
    dropFlags c (List.replicate m c.flag ++ w) = dropFlags c w := by
  induction m with
  | zero => rfl
  | succ m ih => rw [List.replicate_succ, List.cons_append, dropFlags_flag, ih]

theorem dropFlags_of_head?_ne {w : List Byte} (h : w.head? ≠ some c.flag) : dropFlags c w = w := by
  cases w with
  | nil => rfl
  | cons b w => exact dropFlags_plain c (by simpa using h) w

/-- The delimiters around a body are what `trim` removes (R99). -/
theorem trim_replicate_append_replicate (m n : Nat) {body : List Byte} (hhead : body.head? ≠ some c.flag)
    (hlast : body.getLast? ≠ some c.flag) :
    trim c (List.replicate m c.flag ++ body ++ List.replicate n c.flag) = body := by
  have hback : dropFlags c (body ++ List.replicate n c.flag).reverse = body.reverse := by
    rw [List.reverse_append, List.reverse_replicate, dropFlags_replicate_append]
    exact dropFlags_of_head?_ne (by rwa [List.head?_reverse])
  rw [trim, List.append_assoc, dropFlags_replicate_append]
  cases body with
  | nil =>
    have hall := dropFlags_replicate_append (c := c) n []
    rw [List.append_nil] at hall
    rw [List.nil_append, hall]
    rfl
  | cons b r =>
    have hfront : dropFlags c (b :: r ++ List.replicate n c.flag) = b :: r ++ List.replicate n c.flag :=
      dropFlags_of_head?_ne (by simpa using hhead)
    rw [hfront, hback, List.reverse_reverse]

theorem frameDecode_frameEncode (h : c.codecValid) (p : List Byte) : frameDecode c (frameEncode c p) = .ok p := by
  have hflag := flag_notMem_stuff h p
  have htrim := trim_replicate_append_replicate (c := c) 0 1 (mt List.mem_of_head? hflag)
    (mt List.mem_of_getLast? hflag)
  rw [frameDecode, ← unstuff_stuff h p]
  exact congrArg (unstuff c) htrim

/-! What strict UNSTUFF accepts. -/

theorem symbol_of_goodEscape {e : Byte} (h : goodEscape c e = true) : symbol c (e ^^^ c.mask) = [c.esc, e] := by
  have hcases : e = c.flag ^^^ c.mask ∨ e = c.esc ^^^ c.mask := by simpa [goodEscape] using h
  have hres : e ^^^ c.mask = c.flag ∨ e ^^^ c.mask = c.esc := by
    rcases hcases with rfl | rfl <;> simp
  rw [symbol_reserved c hres, BitVec.xor_assoc, BitVec.xor_self, BitVec.xor_zero]

/-- A body that strict UNSTUFF accepts begins with the symbol of the first byte it yields (R96, R97). -/
theorem exists_symbol_of_unstuff_eq_ok_cons (h : c.flag ≠ c.esc) (hs : c.strictUnstuff = true) {body p : List Byte}
    {d : Byte} (hu : unstuff c body = .ok (d :: p)) : ∃ rest, body = symbol c d ++ rest ∧ unstuff c rest = .ok p := by
  cases body with
  | nil => simp at hu
  | cons b rest =>
    by_cases hf : b = c.flag
    · rw [hf, unstuff_flag] at hu
      cases hu
    by_cases he : b = c.esc
    · subst he
      cases rest with
      | nil => rw [unstuff_dangling c h] at hu; cases hu
      | cons e rest =>
        rw [unstuff_escape c h, hs, Bool.true_and] at hu
        split_ifs at hu with hflag hbad
        obtain ⟨q, hq, hdp⟩ := consByte_eq_ok hu
        cases hdp
        have hgood : goodEscape c e = true := by simpa using hbad
        exact ⟨rest, by rw [symbol_of_goodEscape hgood]; rfl, hq⟩
    · rw [unstuff_plain c hf he] at hu
      obtain ⟨q, hq, hdp⟩ := consByte_eq_ok hu
      cases hdp
      exact ⟨rest, by rw [symbol_plain c hf he]; rfl, hq⟩

/-- Strict UNSTUFF accepts only what STUFF writes (R101). -/
theorem stuff_of_unstuff_eq_ok (h : c.flag ≠ c.esc) (hs : c.strictUnstuff = true) {body p : List Byte}
    (hu : unstuff c body = .ok p) : stuff c p = body := by
  induction p generalizing body with
  | nil => exact by_contra fun hne => unstuff_ne_nil c (Ne.symm hne) hu
  | cons d p ih =>
    obtain ⟨rest, rfl, hrest⟩ := exists_symbol_of_unstuff_eq_ok_cons h hs hu
    rw [stuff_cons, ih hrest]

theorem unstuff_eq_ok_iff (h : c.codecValid) (hs : c.strictUnstuff = true) {body p : List Byte} :
    unstuff c body = .ok p ↔ stuff c p = body :=
  ⟨stuff_of_unstuff_eq_ok h.1 hs, fun hp => hp ▸ unstuff_stuff h p⟩

/-- The lenient setting takes any byte after an ESC (R97). -/
theorem unstuff_escape_lenient (h : c.flag ≠ c.esc) (hs : c.strictUnstuff = false) {e : Byte} (he : e ≠ c.flag)
    (rest : List Byte) : unstuff c (c.esc :: e :: rest) = consByte (e ^^^ c.mask) (unstuff c rest) := by
  simp [unstuff_escape c h, he, hs]

end Codec

/-! The codec's rows. -/

theorem exec_stuff (p : List Byte) (s : State) :
    exec (.stuff p) s = .next { s with result := .bytes (stuff s.cfg p) } := rfl

theorem exec_encode (p : List Byte) (s : State) :
    exec (.encode p) s = .next { s with result := .bytes (frameEncode s.cfg p) } := rfl

theorem exec_unstuff (body : List Byte) (s : State) :
    exec (.unstuff body) s = .next { s with result := .unstuffed (unstuff s.cfg body) } := rfl

theorem exec_decode (w : List Byte) (s : State) :
    exec (.decode w) s = .next { s with result := .unstuffed (frameDecode s.cfg w) } := rfl

/-- Settles O9: the facts of R94, each from that of one symbol. -/
theorem stuffFacts : Obligations.StuffFacts := by
  refine fun c h => ⟨flag_notMem_stuff h, fun p => ⟨List.flatMap_def, fun y hy => ?_⟩, symbol_eq_ite, length_stuff,
    stuff_append, fun _ _ hpq => stuff_injective h hpq⟩
  obtain ⟨d, -, rfl⟩ := List.mem_map.mp hy
  rw [symbol_eq_ite]
  split_ifs with hf he
  · exact .inl rfl
  · exact .inr (.inl rfl)
  · exact .inr (.inr ⟨d, rfl, hf, he⟩)

/-- Settles O10: ENCODE adds one FLAG to a body that has none. -/
theorem encodeFacts : Obligations.EncodeFacts := fun c h =>
  ⟨fun p => ⟨rfl, flag_notMem_stuff h p⟩, fun p => by rw [frameEncode, List.length_append, length_stuff]; rfl,
    fun _ _ hpq => frameEncode_injective h hpq⟩

/-- Settles O11: both functions undo what the sender did, whatever STRICT_UNSTUFF is. -/
theorem codecRoundTrip : Obligations.CodecRoundTrip := fun s p h =>
  ⟨exec_stuff p s, by rw [exec_unstuff, unstuff_stuff h], exec_encode p s, rfl,
    by rw [exec_decode, frameDecode_frameEncode h]⟩

/-- Settles O12: under the strict setting UNSTUFF and STUFF are each other's inverse; the lenient body of R101 is
computed. -/
theorem strictUnstuffConverse : Obligations.StrictUnstuffConverse := by
  refine ⟨fun s body h hs => ⟨_, exec_unstuff body s, ?_⟩, fun c hf he hm hs => ⟨?_, ?_⟩⟩
  · have hiff {b p : List Byte} : unstuff s.cfg b = .ok p ↔ stuff s.cfg p = b := unstuff_eq_ok_iff h hs
    exact ⟨fun _ => hiff.mp, exists_congr fun _ => hiff, fun _ _ hp hp2 => (hiff.mp hp2).symm.trans (hiff.mp hp)⟩
  · have hlenient := unstuff_escape_lenient (c := c) (e := 0x41) (by simp [hf, he]) hs (by simp [hf]) []
    rw [he, hm] at hlenient
    exact hlenient
  · rw [stuff_cons, symbol_plain c (by simp [hf]) (by simp [he])]
    rfl

/-- Settles O14: `trim` leaves exactly the body. -/
theorem decodeTrims : Obligations.DecodeTrims := fun s m n body hhead hlast => by
  rw [exec_decode, frameDecode, trim_replicate_append_replicate m n hhead hlast]

end Sys2Proof.Machine
end

section
/-! The receive agent keeps its invariant, a FLAG brings it to the boundary between frames, and from there a frame is
received as itself (10_state.md R21 to R27, 40_frame_codec.md R102, R103, 42_receive_agent.md R142 to R150). -/

namespace Sys2Proof.Machine

theorem consByte_eq_malformed_iff {d : Byte} {u : Unstuffed} {k : Cause} :
    consByte d u = .malformed k ↔ u = .malformed k := by
  cases u <;> simp

/-- An overrun is no outcome of UNSTUFF: a branch that ends the scan names another cause, one that goes on has the
outcome of the rest (R96, R98). -/
theorem unstuff_ne_overrun (c : Config) (body : List Byte) : unstuff c body ≠ .malformed .overrun := by
  fun_induction unstuff c body <;> simp_all [consByte_eq_malformed_iff]

theorem withinLimit_iff {c : Config} {n : Nat} : withinLimit c n = true ↔ ∀ m, c.maxBody = some m → n ≤ m := by
  unfold withinLimit
  cases c.maxBody <;> simp

/-- A body within MAX_BODY that is not of exactly that length has room for one byte more. -/
theorem withinLimit_succ {c : Config} {n : Nat} (h : withinLimit c n = true) (hfull : c.maxBody ≠ some n) :
    withinLimit c (n + 1) = true :=
  withinLimit_iff.mpr fun m hm =>
    Nat.lt_of_le_of_ne (withinLimit_iff.mp h m hm) fun hnm => hfull (hnm ▸ hm)

theorem maxBody_ne_of_withinLimit {c : Config} {m n : Nat} (hmn : m < n) (h : withinLimit c n = true) :
    c.maxBody ≠ some m := fun hm =>
  absurd (withinLimit_iff.mp h m hm) (Nat.not_le.mpr hmn)

/-! The receive invariant. -/

theorem Idle.receiveInv {s : State} (h : Idle s) : ReceiveInv s := by
  obtain ⟨hstate, hbuf⟩ := h
  simp [ReceiveInv, hstate, hbuf, withinLimit_iff]

/-- Between frames and while discarding nothing is held (R24, R27). -/
theorem ReceiveInv.rxBuf_eq_nil {s : State} (h : ReceiveInv s) (hs : s.rxState ≠ .accumulatingFrame) :
    s.rxBuf = [] := by
  obtain ⟨-, -, hawait, -, hdisc⟩ := h
  cases hstate : s.rxState with
  | awaitingDelimiter => exact hawait hstate
  | accumulatingFrame => exact absurd hstate hs
  | discarding => exact (hdisc hstate).1

/-- CLOSEFRAME ends between frames, whatever the body was (R149). -/
theorem idle_closeFrame (s : State) : Idle (closeFrame s) := by
  rcases closeFrame_cases s with ⟨f, -, h⟩ | ⟨k, hk, h⟩
  · rw [h]
    exact ⟨rfl, rfl⟩
  · rw [h]
    cases k with
    | overrun => exact absurd hk (unstuff_ne_overrun _ _)
    | danglingEscape | badEscape | embeddedDelimiter => exact ⟨rfl, rfl⟩

/-- Every byte keeps the receive invariant (R21, R24 to R27). -/
theorem ReceiveInv.after_rxByte {s : State} (h : ReceiveInv s) (b : Byte) : ReceiveInv (rxByte b s) := by
  obtain ⟨hflag, hlimit, -, -, hdisc⟩ := id h
  rcases rxByte_cases b s _ rfl with ⟨hs, -, heq⟩ | ⟨-, -, heq⟩ | ⟨-, -, -, heq⟩ | ⟨-, -, -, heq⟩ |
      ⟨-, -, hfull, heq⟩ | ⟨-, hb, hfull, heq⟩ <;> rw [heq]
  · exact Idle.receiveInv ⟨rfl, (hdisc hs).1⟩
  · exact h
  · exact h
  · exact (idle_closeFrame _).receiveInv
  · simp [ReceiveInv, raiseMalformed_eq, stateAfterMalformed, withinLimit_iff, hfull]
  · refine ⟨fun d hd => ?_, by simpa using withinLimit_succ hlimit hfull, by simp, by simp, by simp⟩
    rcases List.mem_append.mp hd with hd | hd
    · exact hflag d hd
    · rw [List.mem_singleton.mp hd]
      exact hb

theorem ReceiveInv.after_rxChunk {s : State} (h : ReceiveInv s) (w : List Byte) : ReceiveInv (rxChunk w s) := by
  induction w generalizing s with
  | nil => exact h
  | cons b w ih => exact ih (h.after_rxByte b)

/-- After a FLAG the agent is between frames (R102). -/
theorem ReceiveInv.idle_rxByte_flag {s : State} (h : ReceiveInv s) : Idle (rxByte s.cfg.flag s) := by
  obtain ⟨-, -, -, hacc, -⟩ := id h
  rcases rxByte_cases s.cfg.flag s _ rfl with ⟨hs, -, heq⟩ | ⟨-, hb, -⟩ | ⟨hs, -, hn, heq⟩ | ⟨-, -, -, heq⟩ |
      ⟨-, hb, -⟩ | ⟨-, hb, -⟩
  · rw [heq]
    exact ⟨rfl, h.rxBuf_eq_nil (by simp [hs])⟩
  · exact absurd rfl hb
  · have hawait : s.rxState = .awaitingDelimiter := by
      cases hstate : s.rxState with
      | awaitingDelimiter => rfl
      | accumulatingFrame => exact absurd hn (hacc hstate)
      | discarding => exact absurd hstate hs
    rw [heq]
    exact ⟨hawait, hn⟩
  · rw [heq]
    exact idle_closeFrame _
  · exact absurd rfl hb
  · exact absurd rfl hb

/-! Frames. -/

theorem rxChunk_append (v w : List Byte) (s : State) : rxChunk (v ++ w) s = rxChunk w (rxChunk v s) :=
  List.foldl_append

/-- Bytes without FLAG that fit are held as they came (R144). -/
theorem rxChunk_store {s : State} {body : List Byte} (hne : body ≠ []) (hs : s.rxState ≠ .discarding)
    (hflag : s.cfg.flag ∉ body) (hroom : withinLimit s.cfg (s.rxBuf.length + body.length) = true) :
    rxChunk body s = { s with rxState := .accumulatingFrame, rxBuf := s.rxBuf ++ body,
                              rxStream := s.rxStream ++ body } := by
  induction body generalizing s with
  | nil => exact absurd rfl hne
  | cons b body ih =>
    rw [List.mem_cons, not_or] at hflag
    have hstore := rxByte_store hs (Ne.symm hflag.1)
      (maxBody_ne_of_withinLimit (by rw [List.length_cons]; omega) hroom)
    by_cases hbody : body = []
    · rw [hbody, rxChunk_singleton, hstore]
    · have hrest := ih (s := rxByte b s) hbody (by simp [hstore]) (by simpa using hflag.2)
        (by simpa [hstore, Nat.add_assoc, Nat.add_comm 1] using hroom)
      rw [rxChunk_cons, hrest, hstore]
      simp

/-- A FLAG after a well-formed body gives the event of its payload (R142, R149). -/
theorem rxByte_flag_of_unstuff_eq_ok {s : State} {f : List Byte} (hs : s.rxState ≠ .discarding) (hn : s.rxBuf ≠ [])
    (h : unstuff s.cfg s.rxBuf = .ok f) :
    rxByte s.cfg.flag s = { s with rxState := .awaitingDelimiter, rxBuf := [],
                                   rxStream := s.rxStream ++ [s.cfg.flag],
                                   evOut := s.evOut ++ [frameEvent s.cfg f],
                                   evUnread := s.evUnread ++ [frameEvent s.cfg f] } := by
  rw [rxByte_close hs hn, closeFrame, consumeByte_cfg, consumeByte_rxBuf, h]
  rfl

theorem stuff_ne_nil {c : Config} {p : List Byte} (hp : p ≠ []) : stuff c p ≠ [] := by
  rw [← List.length_pos_iff, length_stuff]
  exact Nat.add_pos_left (List.length_pos_iff.mpr hp) _

/-- From the boundary between frames a frame that fits gives the event of its payload (R103). -/
theorem Idle.receive_frameEncode {s : State} (hs : Idle s) (hc : s.cfg.codecValid) {p : List Byte} (hp : p ≠ [])
    (hroom : withinLimit s.cfg (stuff s.cfg p).length = true) :
    rxChunk (frameEncode s.cfg p) s =
      { s with rxStream := s.rxStream ++ frameEncode s.cfg p, evOut := s.evOut ++ [frameEvent s.cfg p],
               evUnread := s.evUnread ++ [frameEvent s.cfg p] } := by
  obtain ⟨hstate, hbuf⟩ := hs
  have hne := stuff_ne_nil (c := s.cfg) hp
  have hbody := rxChunk_store hne (by simp [hstate]) (flag_notMem_stuff hc p) (by simpa [hbuf] using hroom)
  rw [hbuf, List.nil_append] at hbody
  have hclose := rxByte_flag_of_unstuff_eq_ok (s := rxChunk (stuff s.cfg p) s) (by simp [hbody]) (by simpa [hbody])
    (by simpa [hbody] using unstuff_stuff hc p)
  rw [rxChunk_cfg] at hclose
  rw [frameEncode, rxChunk_append, rxChunk_singleton, hclose, hbody]
  simp [hstate, hbuf]

theorem exec_rxchunk (w : List Byte) (s : State) : exec (.rxchunk w) s = .next (rxChunk w s) := rfl

/-- Settles O24: the invariant survives the noise, the FLAG makes the agent idle, and an idle agent receives a frame. -/
theorem selfSynchronisation : Obligations.SelfSynchronisation := by
  intro s noise p hinv hc hp hroom
  have hidle : Idle (rxChunk (noise ++ [s.cfg.flag]) s) := by
    rw [rxChunk_append, rxChunk_singleton, ← rxChunk_cfg noise s]
    exact (hinv.after_rxChunk noise).idle_rxByte_flag
  have hcfg := rxChunk_cfg (noise ++ [s.cfg.flag]) s
  have hframe := hidle.receive_frameEncode (p := p) (by rwa [hcfg]) hp (by rwa [hcfg])
  rw [hcfg] at hframe
  exact ⟨_, exec_rxchunk _ s, hidle, by rw [exec_rxchunk, rxChunk_append, hframe, hcfg]⟩

end Sys2Proof.Machine
end

section
/-! The command encoder: the bytes of the operands, what a change of sign does to a frame, how long a frame is on the
wire, and CMDENCODE and TXCMD (41_command_encoder.md R113 to R118, R127, R129). -/

namespace Sys2Proof.Machine

/-! The operand bytes. -/

/-- A `U8` byte as a number: a clamped value fits a byte (R115). -/
theorem toNat_u8 (v : Int) : ((u8 v).toNat : Int) = min (max v 0) 255 := by
  rw [u8, clamp, BitVec.toNat_ofInt]
  omega

/-- A magnitude is the `U8` byte of the absolute value (R113, R115). -/
theorem mag_eq_u8_abs (v : Int) : mag v = u8 |v| := rfl

theorem toNat_mag (v : Int) : ((mag v).toNat : Int) = min |v| 255 := by
  rw [mag_eq_u8_abs, toNat_u8, max_eq_left (abs_nonneg v)]

@[simp] theorem mag_neg (v : Int) : mag (-v) = mag v := by
  rw [mag_eq_u8_abs, abs_neg, mag_eq_u8_abs]

theorem dirByte_of_neg (k : SignConv) {v : Int} (hv : v < 0) : dirByte k v = negByte k := if_pos hv

/-- Zero is not negative (R114). -/
theorem dirByte_of_nonneg (k : SignConv) {v : Int} (hv : 0 ≤ v) : dirByte k v = nonnegByte k := if_neg hv.not_gt

theorem negByte_ne_nonnegByte (k : SignConv) : negByte k ≠ nonnegByte k := by cases k <;> decide

theorem dirByte_eq_zero_or_one (k : SignConv) (v : Int) : dirByte k v = 0 ∨ dirByte k v = 1 := by
  rcases lt_or_ge v 0 with hv | hv
  · rw [dirByte_of_neg k hv]
    cases k <;> decide
  · rw [dirByte_of_nonneg k hv]
    cases k <;> decide

theorem dirByte_ne_dirByte_neg (k : SignConv) {v : Int} (hv : v ≠ 0) : dirByte k v ≠ dirByte k (-v) := by
  rcases lt_or_gt_of_ne hv with hneg | hpos
  · rw [dirByte_of_neg k hneg, dirByte_of_nonneg k (by omega)]
    exact negByte_ne_nonnegByte k
  · rw [dirByte_of_nonneg k hpos.le, dirByte_of_neg k (by omega)]
    exact (negByte_ne_nonnegByte k).symm

theorem boolByte_eq_zero_or_one (h : ArgValue) : boolByte h = 0 ∨ boolByte h = 1 := by
  unfold boolByte
  split_ifs
  · exact .inr rfl
  · exact .inl rfl

theorem truth_int_iff (v : Int) : truth (.int v) = true ↔ v ≠ 0 := bne_iff_ne

theorem isSome_conv_iff (t : SignTable) (op : Opcode) : (t.conv op).isSome = true ↔
    op = .forward ∨ op = .reverse ∨ op = .rotate ∨ op = .turn ∨ op = .keepHeading := by
  cases op <;> simp [SignTable.conv]

/-! The slots of a layout. -/

section Slots

variable (c : Config) {cmd : Cmd} {a : ArgName} {v : Int}

theorem slotBytes_sm {k : SignConv} (ha : argOf cmd a = some (.int v)) (hk : c.signConv.conv cmd.opcode = some k) :
    slotBytes c cmd ⟨.sm, a⟩ = [mag v, dirByte k v] := by
  simp [slotBytes, ha, hk]

theorem slotBytes_u8 (ha : argOf cmd a = some (.int v)) : slotBytes c cmd ⟨.u8, a⟩ = [u8 v] := by
  simp [slotBytes, ha]

theorem slotBytes_stop_hard (h : ArgValue) : slotBytes c (.stop h) ⟨.bool, .hard⟩ = [boolByte h] := rfl

end Slots

/-- Settles O5: the bytes are the clamped numbers, and each slot kind writes its own. -/
theorem operandBytes : Obligations.OperandBytes :=
  ⟨toNat_mag, fun c _ _ _ _ => slotBytes_sm c,
    fun _ => ⟨fun hv => ⟨dirByte_of_neg .neg1 hv, dirByte_of_neg .neg0 hv⟩,
      fun hv => ⟨dirByte_of_nonneg .neg1 hv, dirByte_of_nonneg .neg0 hv⟩⟩,
    isSome_conv_iff, toNat_u8, fun c _ _ _ => slotBytes_u8 c, slotBytes_stop_hard, fun _ => rfl,
    truth_int_iff⟩

/-! CMDENCODE and TXCMD. -/

theorem exec_txcmd (cmd : Cmd) (s : State) : exec (.txcmd cmd) s = .next (txCmd cmd s) := rfl

/-- Settles O6: the encoder is `cmdEncode`, which every CMD row answers with, and TXCMD appends its wire frame,
with the transport's report where the write fails. -/
theorem commandEncodeAndTransmit : Obligations.CommandEncodeAndTransmit := fun s cmd => by
  refine ⟨cmdEncode s.cfg cmd, rfl, rfl, fun i hi => exec_of_command hi s, fun hok => ?_, fun hfails => ?_⟩
  · obtain ⟨-, htx⟩ | ⟨hw, -⟩ := txCmd_cases cmd s
    · rw [exec_txcmd, htx, frameEncode]
    · simp [hok] at hw
  · obtain ⟨hw, -⟩ | ⟨-, htx⟩ := txCmd_cases cmd s
    · simp [hfails] at hw
    · rw [exec_txcmd, htx, frameEncode]

/-! The change of a sign. -/

/-- A list differs from itself with one byte replaced by another at that byte's index only. -/
theorem getElem?_ne_getElem?_set_iff {f : List Byte} {n : Nat} {x y : Byte} (hx : f[n]? = some x) (hxy : x ≠ y)
    (i : Nat) : f[i]? ≠ (f.set n y)[i]? ↔ i = n := by
  obtain ⟨hn, -⟩ := List.getElem?_eq_some_iff.mp hx
  constructor
  · intro hne
    by_contra hi
    exact hne (List.getElem?_set_ne (Ne.symm hi)).symm
  · rintro rfl
    rw [hx, List.getElem?_set_self hn]
    exact fun h => hxy (Option.some.inj h)

/-- Where a frame holds the direction byte of `v` at index `n`, and its companion is the same frame with the direction
byte of `-v` there, the two differ at `n` only (R127). -/
theorem getElem?_ne_iff_of_sign_flip {f g : List Byte} {n : Nat} {k : SignConv} {v : Int} (hv : v ≠ 0)
    (hf : f[n]? = some (dirByte k v)) (hg : g = f.set n (dirByte k (-v))) (i : Nat) : f[i]? ≠ g[i]? ↔ i = n := by
  rw [hg]
  exact getElem?_ne_getElem?_set_iff hf (dirByte_ne_dirByte_neg k hv) i

/-- Settles O7: the frames of R71 have one length per opcode, and as the magnitude does not see the sign, only the
direction byte moves in them. -/
theorem signFlipChangesOneByte : Obligations.SignFlipChangesOneByte := fun c hl => by
  refine ⟨fun cmd => ⟨?_, rfl⟩, dirByte_eq_zero_or_one, fun a v x i hv => ?_⟩
  · rw [cmdEncode_of_defaultLayout hl]
    cases cmd with
    | stop => rfl
    | motion m =>
      cases m with
      | forward | reverse | rotate | turn | driveRaw | keepHeading | resetOrientation => rfl
  · simp only [cmdEncode_of_defaultLayout hl]
    refine ⟨?_, ?_, ?_, ?_, ?_, ?_⟩ <;> exact getElem?_ne_iff_of_sign_flip hv rfl (by simp [defaultFrame]) i

/-! The length of a command on the wire, under the default codec constants. -/

theorem length_frameEncode (c : Config) (p : List Byte) :
    (frameEncode c p).length = p.length + p.countP (reserved c) + 1 := by
  rw [frameEncode, List.length_append, length_stuff, List.length_singleton]

/-- The `U8` and magnitude bytes of a command: those that its arguments can make reserved (R129). -/
def escapableBytes : Cmd → List Byte
  | .motion (.forward speed distance) => [u8 speed, mag distance]
  | .motion (.reverse speed distance) => [u8 speed, mag distance]
  | .motion (.rotate speed angle) => [u8 speed, mag angle]
  | .motion (.turn speed angle radius) => [u8 speed, mag angle, u8 radius]
  | .motion (.driveRaw left right) => [u8 left, u8 right]
  | .stop _ => []
  | .motion (.keepHeading speed heading distance) => [u8 speed, mag heading, mag distance]
  | .motion .resetOrientation => []

section WireLength

variable {c : Config}

theorem reserved_iff_toNat (hflag : c.flag = 0x7E) (hesc : c.esc = 0x7D) (b : Byte) :
    reserved c b = true ↔ b.toNat = 126 ∨ b.toNat = 125 := by
  rw [reserved_iff, hflag, hesc, ← BitVec.toNat_inj, ← BitVec.toNat_inj]
  rfl

theorem reserved_u8_iff (hflag : c.flag = 0x7E) (hesc : c.esc = 0x7D) (v : Int) :
    reserved c (u8 v) = true ↔ v = 126 ∨ v = 125 := by
  have hv := toNat_u8 v
  rw [reserved_iff_toNat hflag hesc]
  omega

theorem reserved_mag_iff (hflag : c.flag = 0x7E) (hesc : c.esc = 0x7D) (v : Int) :
    reserved c (mag v) = true ↔ |v| = 126 ∨ |v| = 125 := reserved_u8_iff hflag hesc |v|

theorem not_reserved_of_eq_zero_or_one (hflag : c.flag = 0x7E) (hesc : c.esc = 0x7D) {b : Byte} (hb : b = 0 ∨ b = 1) :
    reserved c b = false := by
  rw [reserved, hflag, hesc]
  rcases hb with rfl | rfl <;> rfl

theorem not_reserved_startMarker (hflag : c.flag = 0x7E) (hesc : c.esc = 0x7D) : reserved c 0xA3 = false := by
  rw [reserved, hflag, hesc]
  rfl

theorem not_reserved_opcodeByte (hflag : c.flag = 0x7E) (hesc : c.esc = 0x7D) (op : Opcode) :
    reserved c (opcodeByte op) = false := by
  rw [reserved, hflag, hesc]
  cases op <;> rfl

/-- Only the escapable bytes of a frame can be reserved (R129). -/
theorem countP_reserved_defaultFrame (hflag : c.flag = 0x7E) (hesc : c.esc = 0x7D) (t : SignTable) (cmd : Cmd) :
    (defaultFrame t cmd).countP (reserved c) = (escapableBytes cmd).countP (reserved c) := by
  have hmarker := not_reserved_startMarker hflag hesc
  have hop := not_reserved_opcodeByte hflag hesc cmd.opcode
  have hdir k v := not_reserved_of_eq_zero_or_one hflag hesc (dirByte_eq_zero_or_one k v)
  have hbool h := not_reserved_of_eq_zero_or_one hflag hesc (boolByte_eq_zero_or_one h)
  cases cmd with
  | stop => simp_all [defaultFrame, escapableBytes, Cmd.opcode, opcodeByte]
  | motion m =>
    cases m with
    | forward | reverse | rotate | turn | driveRaw | keepHeading | resetOrientation =>
      simp_all [defaultFrame, escapableBytes, Cmd.opcode, Motion.opcode, opcodeByte, List.countP_cons]

/-- The wire frame of a command: its decoded frame, one ESC per reserved escapable byte, and the FLAG (R94, R129). -/
theorem length_frameEncode_cmdEncode (hl : c.layout = Layout.default) (hflag : c.flag = 0x7E) (hesc : c.esc = 0x7D)
    (cmd : Cmd) : (frameEncode c (cmdEncode c cmd)).length =
      (defaultFrame c.signConv cmd).length + (escapableBytes cmd).countP (reserved c) + 1 := by
  rw [length_frameEncode, cmdEncode_of_defaultLayout hl, countP_reserved_defaultFrame hflag hesc]

/-- The longest wire frame of a command has every escapable byte reserved (R129). -/
theorem length_frameEncode_cmdEncode_le (hl : c.layout = Layout.default) (hflag : c.flag = 0x7E) (hesc : c.esc = 0x7D)
    (cmd : Cmd) : (frameEncode c (cmdEncode c cmd)).length ≤
      (defaultFrame c.signConv cmd).length + (escapableBytes cmd).length + 1 := by
  rw [length_frameEncode_cmdEncode hl hflag hesc]
  have hcount : (escapableBytes cmd).countP (reserved c) ≤ (escapableBytes cmd).length := List.countP_le_length
  omega

/-- A command whose escapable bytes are all reserved attains the longest wire frame (R129). -/
theorem length_frameEncode_cmdEncode_of_all_reserved (hl : c.layout = Layout.default) (hflag : c.flag = 0x7E)
    (hesc : c.esc = 0x7D) {cmd : Cmd} (hall : ∀ b ∈ escapableBytes cmd, b = 0x7E ∨ b = 0x7D) :
    (frameEncode c (cmdEncode c cmd)).length =
      (defaultFrame c.signConv cmd).length + (escapableBytes cmd).length + 1 := by
  have hcount : (escapableBytes cmd).countP (reserved c) = (escapableBytes cmd).length :=
    List.countP_eq_length.mpr fun b hb => (reserved_iff c b).mpr (by rw [hflag, hesc]; exact hall b hb)
  rw [length_frameEncode_cmdEncode hl hflag hesc, hcount]

/-- The wire frame of a forward command with both its escapable bytes reserved, under `NEG1` (R129). -/
theorem frameEncode_forward_of_neg1 (hl : c.layout = Layout.default) (hflag : c.flag = 0x7E) (hesc : c.esc = 0x7D)
    (hmask : c.mask = 0x20) (hk : c.signConv.forward = .neg1) :
    frameEncode c (cmdEncode c (.motion (.forward 126 125))) = [0xA3, 0x10, 0x7D, 0x5E, 0x7D, 0x5D, 0x00, 0x7E] := by
  have hframe : defaultFrame c.signConv (.motion (.forward 126 125)) = [0xA3, 0x10, 0x7E, 0x7D, 0x00] := by
    rw [defaultFrame, hk]
    rfl
  rw [frameEncode, cmdEncode_of_defaultLayout hl, hframe]
  simp [symbol_eq_ite, hflag, hesc, hmask]

end WireLength

/-- Settles O8: a wire frame is its decoded frame, the FLAG and one ESC for each reserved byte, and only the `U8` and
magnitude bytes can be reserved. -/
theorem longestCommandFrames : Obligations.LongestCommandFrames := fun c hl hflag hesc hmask => by
  have hlongest {cmd : Cmd} := length_frameEncode_cmdEncode_of_all_reserved hl hflag hesc (cmd := cmd)
  refine ⟨fun cmd => (length_frameEncode_cmdEncode_le hl hflag hesc cmd).trans ?_,
    fun op => ⟨not_reserved_startMarker hflag hesc, not_reserved_opcodeByte hflag hesc op⟩,
    fun k v => ⟨dirByte_eq_zero_or_one k v, not_reserved_of_eq_zero_or_one hflag hesc (dirByte_eq_zero_or_one k v)⟩,
    fun h => ⟨boolByte_eq_zero_or_one h, not_reserved_of_eq_zero_or_one hflag hesc (boolByte_eq_zero_or_one h)⟩,
    frameEncode_forward_of_neg1 hl hflag hesc hmask, reserved_u8_iff hflag hesc, reserved_mag_iff hflag hesc,
    hlongest (by decide), hlongest (by decide), hlongest (by decide), hlongest (by decide), hlongest (by decide),
    hlongest (by decide), hlongest (by decide), hlongest (by decide)⟩
  cases cmd with
  | stop => exact le_rfl
  | motion m =>
    cases m with
    | forward | reverse | rotate | turn | driveRaw | keepHeading | resetOrientation => exact le_rfl

end Sys2Proof.Machine
end

section
/-! The stream parser: the rows of RXBYTE, CLOSEFRAME, the overrun, the tests of CLASSIFY and the chunk
(42_stream_parser.md R142 to R150). -/

namespace Sys2Proof.Machine

/-! CLOSEFRAME. -/

theorem exec_closeframe {s : State} (h : s.rxBuf ≠ []) : exec .closeframe s = .next (closeFrame s) := if_neg h

/-- Every cause but an overrun leads back to the frame boundary (R212). -/
theorem stateAfterMalformed_of_ne_overrun {k : Cause} (h : k ≠ .overrun) :
    stateAfterMalformed k = .awaitingDelimiter := by
  cases k with
  | overrun => exact absurd rfl h
  | danglingEscape | badEscape | embeddedDelimiter => rfl

/-- UNSTUFF finds an embedded delimiter only where there is one (R96, R98). -/
theorem flag_mem_of_unstuff_eq_embeddedDelimiter {c : Config} {body : List Byte}
    (h : unstuff c body = .malformed .embeddedDelimiter) : c.flag ∈ body := by
  fun_induction unstuff c body with
  | case1 => simp at h
  -- the branches that report an embedded delimiter have just read a FLAG
  | case2 | case5 | case6 => simp
  | case3 | case4 | case7 => simp at h
  | case8 _ _ _ _ _ ih =>
    exact List.mem_cons_of_mem _ (List.mem_cons_of_mem _ (ih (consByte_eq_malformed_iff.mp h)))
  | case9 _ _ _ _ _ ih => exact List.mem_cons_of_mem _ (ih (consByte_eq_malformed_iff.mp h))

theorem closeFrame_of_unstuff_eq_ok {s : State} {f : List Byte} (h : unstuff s.cfg s.rxBuf = .ok f) :
    closeFrame s = { s with rxState := .awaitingDelimiter, rxBuf := [], evOut := s.evOut ++ [frameEvent s.cfg f],
                            evUnread := s.evUnread ++ [frameEvent s.cfg f] } := by
  rw [closeFrame, h]
  rfl

theorem closeFrame_of_unstuff_eq_malformed {s : State} {k : Cause} (h : unstuff s.cfg s.rxBuf = .malformed k) :
    closeFrame s = { s with rxState := .awaitingDelimiter, rxBuf := [], evOut := s.evOut ++ [.malformed k],
                            evUnread := s.evUnread ++ [.malformed k] } := by
  have hk : k ≠ .overrun := fun hk => unstuff_ne_overrun s.cfg s.rxBuf (hk ▸ h)
  rw [closeFrame, h, closeOutcome, raiseMalformed_eq, stateAfterMalformed_of_ne_overrun hk]
  rfl

/-- Settles O18: the outcome of UNSTUFF fixes the event, an overrun is none of its causes, and both outcomes end at the
boundary. -/
theorem closeFrameOutcomes : Obligations.CloseFrameOutcomes := by
  intro s
  constructor
  · intro f hbuf hf
    refine ⟨?_, by rw [exec_closeframe hbuf, closeFrame_of_unstuff_eq_ok hf]⟩
    rintro rfl
    exact unstuff_ne_nil s.cfg hbuf hf
  · intro k hbuf hk
    refine ⟨?_, ?_, by rw [exec_closeframe hbuf, closeFrame_of_unstuff_eq_malformed hk]⟩
    · rintro rfl
      exact unstuff_ne_overrun s.cfg s.rxBuf hk
    · rintro hflag rfl
      exact hflag (flag_mem_of_unstuff_eq_embeddedDelimiter hk)

/-! One byte: the rows of R142 that the laws of RXBYTE do not yet give in full. -/

section Byte

variable {s : State} {b : Byte}

theorem exec_rxbyte (b : Byte) (s : State) : exec (.rxbyte b) s = .next (rxByte b s) := rfl

theorem rxByte_discard (hs : s.rxState = .discarding) (hb : b ≠ s.cfg.flag) :
    rxByte b s = consumeByte b s := by
  simpa [hs, hb] using rxByte_cases b s _ rfl

/-- The FLAG that ends an overrun frame gives no event (R147). -/
theorem rxByte_flag_of_discarding (hs : s.rxState = .discarding) :
    rxByte s.cfg.flag s = setRxState .awaitingDelimiter (consumeByte s.cfg.flag s) := by
  simpa [hs] using rxByte_cases s.cfg.flag s _ rfl

/-- A FLAG with nothing held is fill between frames (R145). -/
theorem rxByte_flag_of_rxBuf_eq_nil (hs : s.rxState ≠ .discarding) (hn : s.rxBuf = []) :
    rxByte s.cfg.flag s = consumeByte s.cfg.flag s := by
  simpa [hs, hn] using rxByte_cases s.cfg.flag s _ rfl

/-- A byte that finds the buffer full drops the frame (R146). -/
theorem rxByte_overrun (hs : s.rxState ≠ .discarding) (hb : b ≠ s.cfg.flag)
    (hfull : s.cfg.maxBody = some s.rxBuf.length) :
    rxByte b s = raiseMalformed .overrun (consumeByte b s) := by
  simpa [hs, hb, hfull] using rxByte_cases b s _ rfl

/-- A FLAG after an ill-formed body reports its cause (R142, R149). -/
theorem rxByte_flag_of_unstuff_eq_malformed {k : Cause} (hs : s.rxState ≠ .discarding) (hn : s.rxBuf ≠ [])
    (h : unstuff s.cfg s.rxBuf = .malformed k) :
    rxByte s.cfg.flag s = { s with rxState := .awaitingDelimiter, rxBuf := [],
                                   rxStream := s.rxStream ++ [s.cfg.flag],
                                   evOut := s.evOut ++ [.malformed k],
                                   evUnread := s.evUnread ++ [.malformed k] } := by
  rw [rxByte_close hs hn, closeFrame_of_unstuff_eq_malformed (by simpa using h)]
  rfl

end Byte

/-- Settles O15: under the invariant the buffer is empty between frames and held inside one, so each row is one case of
the byte step. -/
theorem receiveTransitionTable : Obligations.ReceiveTransitionTable := by
  rintro s _ b hinv rfl
  obtain ⟨-, -, hawait, hacc, -⟩ := hinv
  simp only [exec_rxbyte, Host.Outcome.next.injEq]
  refine ⟨fun hs hb => ?_, fun hs hb hroom => ?_, fun hs hb hfull => ?_, fun hs hb hroom => ?_, fun hs hb hfull => ?_,
    fun f hs hb hf => ?_, fun k hs hb hk => ?_, fun hs hb => rxByte_discard hs hb, fun hs hb => ?_⟩
  · subst hb
    exact rxByte_flag_of_rxBuf_eq_nil (by simp [hs]) (hawait hs)
  · simpa [hawait hs] using rxByte_store (by simp [hs]) hb (by simpa [hawait hs] using hroom)
  · exact rxByte_overrun (by simp [hs]) hb (by simpa [hawait hs] using hfull)
  · exact rxByte_store (by simp [hs]) hb hroom
  · exact rxByte_overrun (by simp [hs]) hb hfull
  · subst hb
    exact rxByte_flag_of_unstuff_eq_ok (by simp [hs]) (hacc hs) hf
  · subst hb
    exact rxByte_flag_of_unstuff_eq_malformed (by simp [hs]) (hacc hs) hk
  · subst hb
    exact rxByte_flag_of_discarding hs

/-! The overrun. -/

/-- While discarding, bytes other than FLAG are consumed and nothing else (R147). -/
theorem rxChunk_discard {s : State} {body : List Byte} (hs : s.rxState = .discarding) (hflag : s.cfg.flag ∉ body) :
    rxChunk body s = { s with rxStream := s.rxStream ++ body } := by
  induction body generalizing s with
  | nil => simp
  | cons b body ih =>
    rw [List.mem_cons, not_or] at hflag
    obtain ⟨hb, hbody⟩ := hflag
    rw [rxChunk_cons, rxByte_discard hs (Ne.symm hb), ih (s := consumeByte b s) hs hbody]
    simp

/-- A body too long for the room left is dropped with one event: bytes are stored up to the limit, the next one
overruns, the rest is thrown away (R146, R147). -/
theorem rxChunk_overrun {s : State} {n : Nat} {body : List Byte} (hs : s.rxState ≠ .discarding)
    (hmax : s.cfg.maxBody = some n) (hflag : s.cfg.flag ∉ body) (hheld : s.rxBuf.length ≤ n)
    (hlong : n < s.rxBuf.length + body.length) :
    rxChunk body s = { s with rxState := .discarding, rxBuf := [], rxStream := s.rxStream ++ body,
                              evOut := s.evOut ++ [.malformed .overrun],
                              evUnread := s.evUnread ++ [.malformed .overrun] } := by
  induction body generalizing s with
  | nil => exact absurd hlong (Nat.not_lt.mpr hheld)
  | cons b body ih =>
    rw [List.mem_cons, not_or] at hflag
    obtain ⟨hb, hbody⟩ := hflag
    rw [List.length_cons] at hlong
    rw [rxChunk_cons]
    by_cases hfull : s.rxBuf.length = n
    · rw [rxByte_overrun hs (Ne.symm hb) (by rw [hmax, hfull]),
        rxChunk_discard (s := raiseMalformed .overrun (consumeByte b s)) rfl hbody]
      simp [stateAfterMalformed]
    · have hstore := rxByte_store hs (Ne.symm hb) (by rw [hmax]; simpa using Ne.symm hfull)
      have hlen : (rxByte b s).rxBuf.length = s.rxBuf.length + 1 := by simp [hstore]
      rw [ih (s := rxByte b s) (by simp [hstore]) (by simpa using hmax) (by simpa using hbody) (by omega) (by omega),
        hstore]
      simp

/-- Settles O25: a body that overruns leaves the agent discarding with its one event emitted, and the FLAG that follows
adds none. -/
theorem overrunReportedOnce : Obligations.OverrunReportedOnce := by
  constructor
  · intro s body _ hs hflag
    have hbody := rxChunk_discard hs hflag
    refine ⟨by rw [exec_rxchunk, hbody], ?_⟩
    rw [exec_rxchunk, rxChunk_append, rxChunk_singleton, hbody]
    exact congrArg _ (rxByte_flag_of_discarding hs)
  · rintro s n body ⟨hstate, hbuf⟩ hmax hflag hlong
    have hbody := rxChunk_overrun (by simp [hstate]) hmax hflag (by simp [hbuf]) (by simpa [hbuf] using hlong)
    have hclose := rxByte_flag_of_discarding (s := rxChunk body s) (by rw [hbody])
    rw [rxChunk_cfg] at hclose
    refine ⟨⟨_, exec_rxchunk body s, by rw [hbody], by rw [hbody]⟩, ?_⟩
    rw [exec_rxchunk, rxChunk_append, rxChunk_singleton, hclose, hbody]
    simp [setRxState, consumeByte, hstate, hbuf]

/-! CLASSIFY. -/

theorem exec_classify (first : Byte) (rest : List Byte) (s : State) :
    exec (.classify first rest) s = .next (emit (frameEvent s.cfg (first :: rest)) s) := rfl

section Classify

variable {c : Config} {first tag : Byte} {rest payload : List Byte}

/-- A wrong marker, where it is checked, makes a frame of any length unknown (R150). -/
theorem frameClass_of_wrong_marker (hcheck : c.markerCheck = true) (hmarker : first ≠ c.respMarker) :
    frameClass c (first :: rest) = .unknown := by
  cases rest with
  | nil => rfl
  | cons tag payload => simp [frameClass, hcheck, hmarker]

/-- Once the marker passes, the tag decides (R150, R152). -/
theorem frameClass_of_marker (h : c.markerCheck = false ∨ first = c.respMarker) :
    frameClass c (first :: tag :: payload) =
      if tag = c.tagReady then .ready
      else if tag = c.tagOdometry then odometryClass payload
      else if tag = c.tagTargetReached then .targetReached
      else .unknown := by
  rcases h with h | h <;> simp [frameClass, h]

/-- An odometry payload shorter than its six bytes is no odometry (R153). -/
theorem odometryClass_of_length_lt (h : payload.length < 6) : odometryClass payload = .unknown := by
  unfold odometryClass
  split
  · simp only [List.length_cons] at h
    omega
  · rfl

end Classify

/-- Settles O16: the event is that of the frame's class, and the class is found test by test. -/
theorem classifyTests : Obligations.ClassifyTests := by
  intro s first rest ⟨hro, hrt, hot⟩
  refine ⟨_, exec_classify first rest s, rfl, ?_, fun hcheck hmarker => ?_, ?_⟩
  · rintro rfl
    rfl
  · rw [frameEvent_of_class (frameClass_of_wrong_marker hcheck hmarker), classEvent]
  · rintro tag payload rfl hmarker
    have hevent := frameEvent_of_class (frameClass_of_marker (tag := tag) (payload := payload) hmarker)
    refine ⟨?_, ?_, ?_, ?_, fun hr ho ht => ?_⟩
    · rintro rfl
      rw [hevent, if_pos rfl, classEvent]
    · rintro rfl hshort
      rw [hevent, if_neg hro.symm, if_pos rfl, odometryClass_of_length_lt hshort, classEvent]
    · rintro q0 q1 q2 q3 q4 q5 more rfl rfl
      rw [hevent, if_neg hro.symm, if_pos rfl]
      rfl
    · rintro rfl
      rw [hevent, if_neg hrt.symm, if_neg hot.symm, if_pos rfl, classEvent]
    · rw [hevent, if_neg hr, if_neg ho, if_neg ht, classEvent]

/-! The chunk. -/

/-- Settles O19: RXCHUNK folds RXBYTE over its bytes, and a fold over a concatenation is two folds. -/
theorem chunkIsItsBytes : Obligations.ChunkIsItsBytes :=
  ⟨exec_rxchunk [], fun s b c => ⟨_, _, exec_rxbyte b s, exec_rxchunk c _, exec_rxchunk (b :: c) s⟩,
    fun s v w => ⟨_, _, exec_rxchunk v s, exec_rxchunk w _, by rw [exec_rxchunk, rxChunk_append]⟩⟩

end Sys2Proof.Machine
end

section
/-! The telemetry decoder: the number a digit string denotes, the digit strings of a byte with and without leading
zeros, and from them the ranges and closed forms of TICKS and PARSEFIXED (00_scope.md R13;
43_telemetry_decoder.md R171 to R177). -/

namespace Sys2Proof.Machine

/-! Digit strings (R13). -/

theorem digitVal_digitAt (b : Byte) (i : Nat) : digitVal (digitAt b i) = b.toNat / 2 ^ i % 2 := by
  rw [← Nat.toNat_testBit, BitVec.testBit_toNat, digitAt]
  cases b.getLsbD i <;> rfl

theorem parse2_append_singleton (ds : List Digit) (d : Digit) : parse2 (ds ++ [d]) = 2 * parse2 ds + digitVal d := by
  simp [parse2]

/-- A digit string shifts what stands before it by its length. -/
theorem parse2_append (xs ys : List Digit) : parse2 (xs ++ ys) = parse2 xs * 2 ^ ys.length + parse2 ys := by
  induction ys using List.reverseRecOn with
  | nil => simp [parse2]
  | append_singleton ys d ih =>
    rw [← List.append_assoc, parse2_append_singleton, parse2_append_singleton, ih, List.length_append,
      List.length_singleton, pow_succ]
    ring

theorem parse2_cons (d : Digit) (ds : List Digit) :
    parse2 (d :: ds) = digitVal d * 2 ^ ds.length + parse2 ds := by
  simpa [parse2] using parse2_append [d] ds

theorem parse2_lt (ds : List Digit) : parse2 ds < 2 ^ ds.length := by
  induction ds with
  | nil => simp [parse2]
  | cons d ds ih =>
    have hd : digitVal d ≤ 1 := by cases d <;> decide
    rw [parse2_cons, List.length_cons, pow_succ]
    have := Nat.mul_le_mul_right (2 ^ ds.length) hd
    omega

/-- The digits of the low bits of a byte denote its residue. -/
theorem parse2_digitAt_range (b : Byte) (n : Nat) :
    parse2 ((List.range n).reverse.map (digitAt b)) = b.toNat % 2 ^ n := by
  induction n with
  | zero => simp [parse2, Nat.mod_one]
  | succ n ih =>
    rw [List.range_succ, List.reverse_append, List.reverse_singleton, List.singleton_append, List.map_cons,
      parse2_cons, ih, digitVal_digitAt, Nat.mod_pow_succ]
    simp only [List.length_map, List.length_reverse, List.length_range]
    ring

/-- `parse2` reads `binstr8` back. -/
theorem parse2_binstr8 (b : Byte) : parse2 (binstr8 b) = b.toNat :=
  (parse2_digitAt_range b 8).trans (Nat.mod_eq_of_lt b.isLt)

theorem length_binstr8 (b : Byte) : (binstr8 b).length = 8 := rfl

/-- Leading zeros do not count. -/
theorem parse2_dropWhile_zero (ds : List Digit) : parse2 (ds.dropWhile (· == .zero)) = parse2 ds := by
  induction ds with
  | nil => rfl
  | cons d ds ih =>
    cases d with
    | zero => simpa [parse2_cons, digitVal] using ih
    | one => rfl

/-- `binstr` is "0" for 0, and begins with a one for any other byte. -/
theorem binstr_cases (b : Byte) :
    b.toNat = 0 ∧ binstr b = [.zero] ∨ ∃ ds, binstr b = .one :: ds ∧ parse2 (.one :: ds) = b.toNat := by
  have hval := parse2_dropWhile_zero (binstr8 b)
  rw [parse2_binstr8] at hval
  cases hdrop : (binstr8 b).dropWhile (· == .zero) with
  | nil =>
    rw [hdrop] at hval
    exact .inl ⟨hval.symm, by rw [binstr, hdrop]⟩
  | cons d ds =>
    have hone : d ≠ .zero := by
      have := List.head?_dropWhile_not (· == Digit.zero) (binstr8 b)
      simpa [hdrop] using this
    cases d with
    | zero => exact absurd rfl hone
    | one => exact .inr ⟨ds, by rw [binstr, hdrop], hdrop ▸ hval⟩

/-- `parse2` reads `binstr` back. -/
theorem parse2_binstr (b : Byte) : parse2 (binstr b) = b.toNat := by
  rcases binstr_cases b with ⟨h0, hb⟩ | ⟨ds, hb, hval⟩
  · rw [hb, h0]; rfl
  · rw [hb, hval]

/-- `binstr` has as many digits as the byte's number in base 2, one for 0. -/
theorem length_binstr (b : Byte) : (binstr b).length = Nat.log2 b.toNat + 1 := by
  rcases binstr_cases b with ⟨h0, hb⟩ | ⟨ds, hb, hval⟩
  · rw [hb, h0]; rfl
  · have hlt := parse2_lt ds
    rw [parse2_cons, digitVal, one_mul] at hval
    have hlog : Nat.log2 b.toNat = ds.length := by
      rw [Nat.log2_eq_iff (by omega), pow_succ]
      omega
    rw [hb, hlog, List.length_cons]

/-! PARSEFIXED. -/

theorem parseFixed_padded8 {c : Config} (h : c.headingMode = .padded8) (msb lsb : Byte) :
    parseFixed c msb lsb = 256 * msb.toNat + lsb.toNat := by
  rw [parseFixed, h]
  simp only [parse2_append, parse2_binstr8, length_binstr8]
  ring

theorem parseFixed_unpadded {c : Config} (h : c.headingMode = .unpadded) (msb lsb : Byte) :
    parseFixed c msb lsb = msb.toNat * 2 ^ (Nat.log2 lsb.toNat + 1) + lsb.toNat := by
  rw [parseFixed, h]
  simp only [parse2_append, parse2_binstr, length_binstr]

/-- A byte has at most eight digits. -/
theorem two_pow_log2_succ_le (b : Byte) : 2 ^ (Nat.log2 b.toNat + 1) ≤ 256 := by
  have hlog : Nat.log2 b.toNat < 8 := by
    by_cases h0 : b.toNat = 0
    · rw [h0]; decide
    · exact (Nat.log2_lt h0).mpr b.isLt
  exact Nat.pow_le_pow_right two_pos hlog

/-- A byte has eight digits exactly when its top bit is set. -/
theorem two_pow_log2_succ_eq_iff (b : Byte) : 2 ^ (Nat.log2 b.toNat + 1) = 256 ↔ 128 ≤ b.toNat := by
  constructor
  · intro h
    have h0 : b.toNat ≠ 0 := fun h0 => by rw [h0] at h; exact absurd h (by decide)
    have hle := Nat.log2_self_le h0
    omega
  · intro h
    have hlt : b.toNat < 2 ^ (Nat.log2 b.toNat + 1) := Nat.lt_log2_self
    have hlog : 7 ≤ Nat.log2 b.toNat := (Nat.le_log2 (by omega)).mpr h
    exact le_antisymm (two_pow_log2_succ_le b) (Nat.pow_le_pow_right two_pos (Nat.succ_le_succ hlog))

/-- Two bytes denote at most 16 bits, in either mode (R176). -/
theorem parseFixed_le (c : Config) (msb lsb : Byte) : parseFixed c msb lsb ≤ 65535 := by
  have hm := msb.isLt
  have hl := lsb.isLt
  cases h : c.headingMode with
  | padded8 =>
    rw [parseFixed_padded8 h]
    omega
  | unpadded =>
    rw [parseFixed_unpadded h]
    have hshift := Nat.mul_le_mul_left msb.toNat (two_pow_log2_succ_le lsb)
    omega

/-! TICKS. -/

theorem neg_one_le_mult (d : Byte) : -1 ≤ mult d := by
  unfold mult
  split_ifs <;> omega

theorem mult_le (d : Byte) : mult d ≤ 255 := by
  unfold mult
  split_ifs <;> omega

/-- The range of TICKS (R172). -/
theorem neg_255_le_ticks (d n : Byte) : -255 ≤ ticks d n := by
  have hn := n.isLt
  have := mul_le_mul_of_nonneg_left (neg_one_le_mult d) (Int.natCast_nonneg n.toNat)
  unfold ticks
  omega

theorem ticks_le (d n : Byte) : ticks d n ≤ 65025 := by
  have hn := n.isLt
  have := mul_le_mul_of_nonneg_left (mult_le d) (Int.natCast_nonneg n.toNat)
  unfold ticks
  omega

/-! The decoder's rows. -/

theorem exec_ticks (d n : Byte) (s : State) :
    exec (.ticks d n) s = .next { s with result := .ticks (ticks d n) } := rfl

theorem exec_parsefixed (msb lsb : Byte) (s : State) :
    exec (.parsefixed msb lsb) s = .next { s with result := .fixed (parseFixed s.cfg msb lsb) } := rfl

/-- The degrees are the exact hundredth of the raw count (R176). -/
theorem exec_heading (msb lsb : Byte) (s : State) : exec (.heading msb lsb) s = .next { s with
    result := .heading (parseFixed s.cfg msb lsb) ((parseFixed s.cfg msb lsb : Rat) / 100) } := by
  have hdegrees : degrees (parseFixed s.cfg msb lsb) = (parseFixed s.cfg msb lsb : Rat) / 100 := by
    simp [degrees, Rat.mkRat_eq_div]
  rw [← hdegrees]
  rfl

theorem exec_telemetry (q0 q1 q2 q3 q4 q5 : Byte) (s : State) : exec (.telemetry q0 q1 q2 q3 q4 q5) s =
    .next { s with result := .telemetry (ticks q0 q1) (ticks q2 q3) (parseFixed s.cfg q4 q5) } := rfl

/-- Settles O31: TICKS by its definition and range, the ends by evaluation. -/
theorem ticksProduct : Obligations.TicksProduct := by
  refine fun s d n => ⟨_, exec_ticks d n s, rfl, neg_255_le_ticks d n, ticks_le d n, ?_, ?_⟩
  · rintro rfl rfl
    rfl
  · rintro rfl rfl
    rfl

/-- Settles O32: the closed forms are those of the digit strings, and the shifts agree when `lsb` has eight digits. -/
theorem parseFixedClosedForms : Obligations.ParseFixedClosedForms := by
  intro s msb lsb digits hdigits
  have hcount : digits = Nat.log2 lsb.toNat + 1 := by
    rw [hdigits]
    split_ifs with hlt
    · interval_cases lsb.toNat <;> rfl
    · rfl
  subst hcount
  refine ⟨fun h => ?_, fun h => ?_, ?_⟩
  · rw [exec_parsefixed, parseFixed_padded8 h]
  · rw [exec_parsefixed, parseFixed_unpadded h]
  · calc 256 * msb.toNat + lsb.toNat = msb.toNat * 2 ^ (Nat.log2 lsb.toNat + 1) + lsb.toNat
      _ ↔ msb.toNat * 2 ^ (Nat.log2 lsb.toNat + 1) = msb.toNat * 256 := by omega
      _ ↔ 2 ^ (Nat.log2 lsb.toNat + 1) = 256 ∨ msb.toNat = 0 := mul_eq_mul_left_iff
      _ ↔ msb = 0 ∨ 128 ≤ lsb.toNat := by
        rw [two_pow_log2_succ_eq_iff, or_comm, ← BitVec.toNat_inj]
        rfl

/-- Settles O33: HEADING returns the count of PARSEFIXED, which fits 16 bits in either mode. -/
theorem headingInHundredths : Obligations.HeadingInHundredths := by
  refine fun s msb lsb => ⟨_, exec_heading msb lsb s, exec_parsefixed msb lsb s, parseFixed_le s.cfg msb lsb, ?_⟩
  rintro h rfl rfl
  have hraw : parseFixed s.cfg 0x8C 0xA0 = 36000 := parseFixed_padded8 h 0x8C 0xA0
  rw [hraw]
  norm_num

/-- Settles O34: each row returns its function's value, and TELEMETRY the three together. -/
theorem telemetryTriple : Obligations.TelemetryTriple := fun s q0 q1 q2 q3 q4 q5 =>
  ⟨_, _, _, exec_ticks q0 q1 s, exec_ticks q2 q3 s, exec_parsefixed q4 q5 s, exec_telemetry q0 q1 q2 q3 q4 q5 s⟩

end Sys2Proof.Machine
end

section
/-! The host correlator: which commands carry a completion, and how the pending handle is settled by a TargetReached
event or a cancellation (44_host_correlator.md R193 to R197). -/

namespace Sys2Proof.Machine

section PendingHandle

variable {s : State}

/-- A held slot is freed and its handle takes the condition (R195, R197). -/
theorem closeHandle_of_pending {h : Nat} (hp : s.pending = some h) (k : HandleCond) :
    closeHandle k s = { s with pending := none, handles := s.handles.set h k } := by
  rw [closeHandle, hp]

/-- With the slot free there is nothing to settle (R195; log 20). -/
theorem closeHandle_of_free (hp : s.pending = none) (k : HandleCond) : closeHandle k s = s := by
  rw [closeHandle, hp]

end PendingHandle

theorem exec_ontargetreached (s : State) :
    exec .ontargetreached s = .next (publish .targetReached (closeHandle .resolved s)) := rfl

theorem exec_cancel (s : State) : exec .cancel s = .next (closeHandle .cancelled s) := rfl

/-- Settles O35: one clause per command; where there is a distance or an angle, the test is that it is not zero. -/
theorem bearingCommands : Obligations.BearingCommands := by
  refine ⟨?forward, ?reverse, ?rotate, ?turn, ?keepHeading, ?driveRaw, ?resetOrientation⟩
  case forward => exact fun _ _ => bne_iff_ne
  case reverse => exact fun _ _ => bne_iff_ne
  case rotate => exact fun _ _ => bne_iff_ne
  case turn => exact fun _ _ _ => bne_iff_ne
  case keepHeading => exact fun _ _ _ => bne_iff_ne
  case driveRaw => exact fun _ _ => rfl
  case resetOrientation => rfl

/-- Settles O37: what is pending is settled, if anything is, before the event is published. -/
theorem targetReachedResolvesPending : Obligations.TargetReachedResolvesPending := by
  refine fun s => ⟨fun h hp => ?held, fun hp => ?free⟩
  case held => rw [exec_ontargetreached, closeHandle_of_pending hp]; rfl
  case free => rw [exec_ontargetreached, closeHandle_of_free hp]; rfl

/-- Settles O41: CANCEL is the closing of the pending handle and nothing more. -/
theorem cancelFreesTheSlot : Obligations.CancelFreesTheSlot := fun s h hp => by
  rw [exec_cancel, closeHandle_of_pending hp]

end Sys2Proof.Machine
end

section
/-! The exception Malformed, the order of transmit and receive, and the routing of events (60_exceptions.md R217 to
R220; 44_host_correlator.md R200). -/

namespace Sys2Proof.Machine

/-! Raising Malformed. -/

/-- Only an overrun leaves the rest of its frame to be discarded (R212, R220). -/
theorem stateAfterMalformed_eq_ite (k : Cause) :
    stateAfterMalformed k = if k = .overrun then .discarding else .awaitingDelimiter := by
  split
  next hk => rw [hk, stateAfterMalformed]
  next hk => exact stateAfterMalformed_of_ne_overrun hk

/-- No class of frame is reported as Malformed (R150). -/
theorem frameEvent_ne_malformed (c : Config) (f : List Byte) (k : Cause) : frameEvent c f ≠ .malformed k := by
  rw [frameEvent]
  cases frameClass c f with
  | ready | odometry | targetReached | unknown => simp [classEvent]

/-- CLOSEFRAME emits Malformed only by raising it (R149). -/
theorem closeFrame_of_evOut_eq_malformed {s : State} {k : Cause}
    (h : (closeFrame s).evOut = s.evOut ++ [.malformed k]) : closeFrame s = raiseMalformed k s := by
  rcases closeFrame_cases s with ⟨f, -, heq⟩ | ⟨j, -, heq⟩
  · have hframe : frameEvent s.cfg f = .malformed k := by simpa [heq] using h
    exact absurd hframe (frameEvent_ne_malformed s.cfg f k)
  · have hcause : j = k := by simpa [heq] using h
    rw [heq, hcause]
    rfl

/-- A byte that emits Malformed is consumed, and then raises it and does nothing else (R142, R220). -/
theorem rxByte_of_evOut_eq_malformed {s : State} {b : Byte} {k : Cause}
    (h : (rxByte b s).evOut = s.evOut ++ [.malformed k]) : rxByte b s = raiseMalformed k (consumeByte b s) := by
  rcases rxByte_cases b s _ rfl with ⟨-, -, heq⟩ | ⟨-, -, heq⟩ | ⟨-, -, -, heq⟩ | ⟨-, -, -, heq⟩ | ⟨-, -, -, heq⟩ |
      ⟨-, -, -, heq⟩ <;> rw [heq] at h ⊢
  -- only the close of a frame and the overrun emit an event
  · simp at h
  · simp at h
  · simp at h
  · exact closeFrame_of_evOut_eq_malformed h
  · have hcause : .overrun = k := by simpa using h
    rw [hcause]
  · simp at h

/-- Settles O27: the byte's step is `raiseMalformed`, whose next RX_STATE tells an overrun from the other causes. -/
theorem malformedDropsTheFrame : Obligations.MalformedDropsTheFrame := by
  intro s t b k hexec hev
  cases hexec
  rw [rxByte_of_evOut_eq_malformed hev, raiseMalformed_eq, stateAfterMalformed_eq_ite]
  rfl

/-! Transmit and receive. -/

/-- The three fields that TXCMD writes, replaced (R118, R41). -/
def withTransmit (tx : List Byte) (turns : List Turn) (n : Nat) (s : State) : State :=
  { s with txStream := tx, agenda := turns, freeCount := n }

/-- TXCMD writes these three fields, from the parameters, the outcome of writes and the fields themselves (R118). -/
theorem txCmd_eq_withTransmit (cmd : Cmd) (s : State) :
    txCmd cmd s = withTransmit (s.txStream ++ frameEncode s.cfg (cmdEncode s.cfg cmd))
      (if s.writeFails then agendaWithError s.freeCount s.agenda else s.agenda)
      (if s.writeFails then s.freeCount + 1 else s.freeCount) s := rfl

section WithTransmit

variable (tx : List Byte) (turns : List Turn) (n : Nat)

/-- The close of a frame carries the transmit fields through, unread and unchanged (R149, R219). -/
theorem closeFrame_withTransmit (s : State) :
    closeFrame (withTransmit tx turns n s) = withTransmit tx turns n (closeFrame s) := by
  cases hu : unstuff s.cfg s.rxBuf with
  | ok f =>
    rw [closeFrame_of_unstuff_eq_ok hu]
    exact closeFrame_of_unstuff_eq_ok hu
  | malformed k =>
    rw [closeFrame_of_unstuff_eq_malformed hu]
    exact closeFrame_of_unstuff_eq_malformed hu

/-- The byte step carries the transmit fields through, unread and unchanged (R141, R219). -/
theorem rxByte_withTransmit (b : Byte) (s : State) :
    rxByte b (withTransmit tx turns n s) = withTransmit tx turns n (rxByte b s) := by
  rcases rxByte_cases b s _ rfl with ⟨hs, rfl, heq⟩ | ⟨hs, hb, heq⟩ | ⟨hs, rfl, hn, heq⟩ | ⟨hs, rfl, hn, heq⟩ |
      ⟨hs, hb, hfull, heq⟩ | ⟨hs, hb, hroom, heq⟩ <;> rw [heq]
  · exact rxByte_flag_of_discarding hs
  · exact rxByte_discard hs hb
  · exact rxByte_flag_of_rxBuf_eq_nil hs hn
  · rw [← closeFrame_withTransmit]
    exact rxByte_close (s := withTransmit tx turns n s) hs hn
  · exact rxByte_overrun hs hb hfull
  · exact rxByte_store hs hb hroom

end WithTransmit

/-- TXCMD and RXBYTE commute (R219): neither writes what the other reads. -/
theorem rxByte_txCmd (b : Byte) (cmd : Cmd) (s : State) : rxByte b (txCmd cmd s) = txCmd cmd (rxByte b s) := by
  rw [txCmd_eq_withTransmit, rxByte_withTransmit, txCmd_eq_withTransmit, rxByte_frame b s]

/-- Settles O29: both orders end in the state that `rxByte_txCmd` equates. -/
theorem transmitReceiveCommute : Obligations.TransmitReceiveCommute := fun s cmd b =>
  ⟨txCmd cmd s, rxByte b s, txCmd cmd (rxByte b s), exec_txcmd cmd s, by rw [exec_rxbyte, rxByte_txCmd],
    exec_rxbyte b s, exec_txcmd cmd (rxByte b s)⟩

/-! The host's turn. -/

section HostTurn

variable {s : State} {e : Event} {es : List Event} {ts : List Turn}

/-- A TargetReached at the head of the unread events runs the correlator's reaction (R195). -/
theorem step_host_targetReached (ha : s.agenda = .host :: ts) (he : s.evUnread = .targetReached :: es) :
    step s = exec .ontargetreached { s with agenda := ts, evUnread := es } := by
  refine step_of_run ?_
  rw [fetchNext_cons ha]
  simp only [fetchTurn, fetchEvent, he]

/-- Any other event is routed without an instruction (R217). -/
theorem step_host_routeEvent (ha : s.agenda = .host :: ts) (he : s.evUnread = e :: es) (hne : e ≠ .targetReached) :
    step s = .next (routeEvent e { s with agenda := ts, evUnread := es }) := by
  refine step_of_done ?_
  rw [fetchNext_cons ha]
  cases e with
  | targetReached => exact absurd rfl hne
  | ready | odometry | unknown | malformed => simp only [fetchTurn, fetchEvent, he]

end HostTurn

/-- The record of an INIT call changes only while it waits (R200). -/
theorem endInit_eq_ite (r : InitCall) (s : State) :
    endInit r s = { s with initCall := if s.initCall = .waiting then r else s.initCall } := by
  rcases endInit_cases r s with ⟨hwait, heq⟩ | ⟨hwait, heq⟩ <;> simp [heq, hwait]

/-- Settles O45: the correlator runs for a TargetReached, and `routeEvent` has an arm for each other event. -/
theorem eventsAreRouted : Obligations.EventsAreRouted := by
  rintro s _ e es ts ha he rfl
  refine ⟨?targetReached, ?odometry, ?ready, ?unknown, ?malformed⟩
  case targetReached =>
    rintro rfl
    exact step_host_targetReached ha he
  case odometry =>
    rintro l r h rfl
    exact step_host_routeEvent ha he (by simp)
  case ready =>
    rintro rfl
    rw [step_host_routeEvent ha he (by simp), routeEvent, endInit_eq_ite]
  case unknown =>
    rintro f rfl
    exact step_host_routeEvent ha he (by simp)
  case malformed =>
    rintro k rfl
    exact step_host_routeEvent ha he (by simp)

end Sys2Proof.Machine
end

section
/-! The byte step as a function of what it reads: at most one event per byte, and no other field of the state read or
written (42_stream_parser.md R141 to R149, R156). -/

namespace Sys2Proof.Machine

/-- The event with which a body is closed (R149). -/
def closeEvent (c : Config) (body : List Byte) : Event :=
  match unstuff c body with
  | .ok f => frameEvent c f
  | .malformed k => .malformed k

theorem closeEvent_of_ok {c : Config} {body f : List Byte} (h : unstuff c body = .ok f) :
    closeEvent c body = frameEvent c f := by
  rw [closeEvent, h]

theorem closeEvent_of_malformed {c : Config} {body : List Byte} {k : Cause} (h : unstuff c body = .malformed k) :
    closeEvent c body = .malformed k := by
  rw [closeEvent, h]

/-- CLOSEFRAME emits one event and leaves the agent between frames (R149). -/
theorem closeFrame_eq (s : State) :
    closeFrame s = { s with rxState := .awaitingDelimiter, rxBuf := [],
                            evOut := s.evOut ++ [closeEvent s.cfg s.rxBuf],
                            evUnread := s.evUnread ++ [closeEvent s.cfg s.rxBuf] } := by
  cases hu : unstuff s.cfg s.rxBuf with
  | ok f => rw [closeFrame_of_unstuff_eq_ok hu, closeEvent_of_ok hu]
  | malformed k => rw [closeFrame_of_unstuff_eq_malformed hu, closeEvent_of_malformed hu]

/-- What a byte leaves of the receive agent's state, and the events it emits. -/
structure ByteOutcome where
  rxState : RxState
  rxBuf : List Byte
  events : List Event

/-- The table of R142, read as a function. -/
def byteOutcome (c : Config) (r : RxState) (buf : List Byte) (b : Byte) : ByteOutcome :=
  if r = .discarding then
    if b = c.flag then ⟨.awaitingDelimiter, buf, []⟩ else ⟨.discarding, buf, []⟩
  else if b = c.flag then
    if buf = [] then ⟨r, [], []⟩ else ⟨.awaitingDelimiter, [], [closeEvent c buf]⟩
  else if c.maxBody = some buf.length then ⟨.discarding, [], [.malformed .overrun]⟩
  else ⟨.accumulatingFrame, buf ++ [b], []⟩

/-- A byte is consumed and its outcome takes effect (R142, R143). -/
def applyOutcome (b : Byte) (o : ByteOutcome) (s : State) : State :=
  { s with rxState := o.rxState, rxBuf := o.rxBuf, rxStream := s.rxStream ++ [b],
           evOut := s.evOut ++ o.events, evUnread := s.evUnread ++ o.events }

/-- RXBYTE is that function: it reads nothing else of the state, and writes nothing else (R141). -/
theorem rxByte_eq_applyOutcome (b : Byte) (s : State) :
    rxByte b s = applyOutcome b (byteOutcome s.cfg s.rxState s.rxBuf b) s := by
  rcases rxByte_cases b s _ rfl with ⟨hs, hb, h⟩ | ⟨hs, hb, h⟩ | ⟨hs, hb, hn, h⟩ | ⟨hs, hb, hn, h⟩ |
      ⟨hs, hb, hfull, h⟩ | ⟨hs, hb, hroom, h⟩ <;> rw [h]
  · simp [byteOutcome, applyOutcome, hs, hb, setRxState, consumeByte]
  · simp [byteOutcome, applyOutcome, hs, hb, consumeByte]
  · simp [byteOutcome, applyOutcome, hs, hb, hn, consumeByte]
  · simp [byteOutcome, applyOutcome, hs, hb, hn, closeFrame_eq, consumeByte]
  · simp [byteOutcome, applyOutcome, hs, hb, hfull, raiseMalformed_eq, stateAfterMalformed, consumeByte]
  · simp [byteOutcome, applyOutcome, hs, hb, hroom, setRxState, appendBuf, consumeByte]

/-- A byte gives at most one event: at a FLAG that of the body held, at the overrunning byte that of the overrun (R218). -/
theorem byteOutcome_events_cases (c : Config) (r : RxState) (buf : List Byte) (b : Byte) :
    (byteOutcome c r buf b).events = [] ∨
    b = c.flag ∧ buf ≠ [] ∧ (byteOutcome c r buf b).events = [closeEvent c buf] ∨
    c.maxBody = some buf.length ∧ (byteOutcome c r buf b).events = [.malformed .overrun] := by
  unfold byteOutcome
  split_ifs with hdisc _ hflag hempty hfull
  · exact .inl rfl
  · exact .inl rfl
  · exact .inl rfl
  · exact .inr (.inl ⟨hflag, hempty, rfl⟩)
  · exact .inr (.inr ⟨hfull, rfl⟩)
  · exact .inl rfl

/-- Settles O26: the outcome of a byte has at most one event, and a FLAG ends between frames. -/
theorem atMostOneEventPerByte : Obligations.AtMostOneEventPerByte := by
  intro s b hinv
  refine ⟨_, exec_rxbyte b s, ?_, ?_⟩
  · rw [rxByte_eq_applyOutcome]
    rcases byteOutcome_events_cases s.cfg s.rxState s.rxBuf b with h | ⟨hb, -, h⟩ | ⟨hfull, h⟩
    · exact .inl (by simp [applyOutcome, h])
    · exact .inr ⟨closeEvent s.cfg s.rxBuf, by simp [applyOutcome, h], by simp [applyOutcome, h], .inl hb⟩
    · exact .inr ⟨.malformed .overrun, by simp [applyOutcome, h], by simp [applyOutcome, h], .inr ⟨rfl, hfull⟩⟩
  · rintro rfl
    exact hinv.idle_rxByte_flag

/-- Settles O28: the outcome of the byte is one function of what the two states share. -/
theorem receiveReadsOnlyItsState : Obligations.ReceiveReadsOnlyItsState := by
  intro s1 s2 b hcfg hstate hbuf
  refine ⟨_, _, (byteOutcome s1.cfg s1.rxState s1.rxBuf b).events, exec_rxbyte b s1, exec_rxbyte b s2, ?_⟩
  rw [rxByte_eq_applyOutcome b s1, rxByte_eq_applyOutcome b s2, ← hcfg, ← hstate, ← hbuf]
  exact ⟨rfl, rfl, rfl, rfl⟩

end Sys2Proof.Machine
end

section
/-! The inversion of a step, and from the effects of the instructions and of the turns that every step keeps the
parameters, the receive invariant and the event invariant (10_state.md R21 to R37; 20_memory.md R43;
70_reset_and_hazards.md R242). -/

namespace Sys2Proof.Machine

/-! The inversion of a step. -/

/-- What is left of an encoded item goes back to the head of the agenda, and nothing else changes (log 23). -/
theorem keepRest_eq_ite (f : Format) (left : List Byte) (s : State) :
    keepRest f left s = { s with agenda := if left = [] then s.agenda else .encoded f left :: s.agenda } := by
  unfold keepRest
  split_ifs <;> rfl

/-- An encoded item that ends without an instruction changes nothing (log 23). -/
theorem fetchTurn_encoded_done {f : Format} {bs : List Byte} {s t : State}
    (h : fetchTurn (.encoded f bs) s = .done t) : t = s := by
  simp only [fetchTurn, fetchEncoded] at h
  split at h
  · exact (Fetched.done.inj h).symm
  · split at h <;> cases h

/-- The inversion of `step`: but for the turn taken from the agenda, a step that answers a next state has the effect of
a turn or that of an instruction. -/
theorem step_effect {s t : State} (h : step s = .next t) :
    ∃ ts, (∃ turn, TurnEffect { s with agenda := ts } turn t) ∨ ∃ i, ExecEffect { s with agenda := ts } i t := by
  cases ha : s.agenda with
  | nil =>
    rw [step_of_agenda_nil ha h]
    exact ⟨s.agenda, .inl ⟨.tx, .waits .tx⟩⟩
  | cons turn ts =>
    by_cases hinstr : (∀ i, turn ≠ .call i) ∧ ∀ f bs, turn ≠ .encoded f bs
    · exact ⟨ts, .inl ⟨turn, step_turnEffect ha hinstr.1 hinstr.2 h⟩⟩
    rcases step_cases h with hd | ⟨i, u, hr, hx⟩
    · rw [fetchNext_cons ha] at hd
      cases turn with
      | call i => cases hd
      | encoded f bs =>
        rw [fetchTurn_encoded_done hd]
        exact ⟨ts, .inl ⟨.tx, .waits .tx⟩⟩
      | deliver | submit | tx | rx | host | transport | writes | elapse => simp at hinstr
    · rw [fetchNext_cons ha] at hr
      rcases fetchTurn_run hr with ⟨_, _, rfl, -⟩ | ⟨_, _, rfl, -⟩ | ⟨_, rfl, -⟩ | ⟨-, rfl⟩ | ⟨_, _, _, -, -, rfl⟩
      · simp at hinstr
      · simp at hinstr
      · simp at hinstr
      · exact ⟨ts, .inr ⟨i, exec_effect hx⟩⟩
      · rw [keepRest_eq_ite] at hx
        exact ⟨_, .inr ⟨i, exec_effect hx⟩⟩

/-! The parameters (R30, R242). -/

theorem closeFrame_cfg (s : State) : (closeFrame s).cfg = s.cfg := by rw [closeFrame_eq]

theorem closeHandle_cfg (k : HandleCond) (s : State) : (closeHandle k s).cfg = s.cfg := by
  rcases closeHandle_cases k s with ⟨-, h⟩ | ⟨_, -, h⟩ <;> rw [h]

theorem returnAfterWrite_cfg (r : Result) (s : State) : (returnAfterWrite r s).cfg = s.cfg := by
  rw [returnAfterWrite_frame]

theorem endInit_cfg (r : InitCall) (s : State) : (endInit r s).cfg = s.cfg := by rw [endInit_frame]

theorem onTargetReached_cfg (s : State) : (onTargetReached s).cfg = s.cfg := closeHandle_cfg _ s

theorem routeEvent_cfg (e : Event) (s : State) : (routeEvent e s).cfg = s.cfg := by
  cases e with
  | ready => exact endInit_cfg _ s
  | targetReached => exact onTargetReached_cfg s
  | odometry | unknown | malformed => rfl

theorem transportNote_cfg (n : TransportNote) (s : State) : (transportNote n s).cfg = s.cfg := by
  rcases transportNote_cases n s with ⟨_, -, h⟩ | ⟨-, h⟩
  · rw [h, endInit_cfg]; rfl
  · rw [h]; rfl

theorem ExecEffect.cfg_eq {i : Instr} {s t : State} (h : ExecEffect s i t) : t.cfg = s.cfg := by
  cases h with
  | receives _ bs => exact rxChunk_cfg bs s
  | closes => exact closeFrame_cfg s
  | issuesBearing | issuesOther | stops => exact returnAfterWrite_cfg _ _
  | reacts => exact onTargetReached_cfg s
  | cancels => exact closeHandle_cfg _ s
  | returns | classifies | sends | resets | begins => rfl

theorem TurnEffect.cfg_eq {turn : Turn} {s t : State} (h : TurnEffect s turn t) : t.cfg = s.cfg := by
  cases h with
  | receives => exact rxByte_cfg _ _
  | reacts => exact onTargetReached_cfg _
  | routes => exact routeEvent_cfg _ _
  | notes n => exact transportNote_cfg n s
  | waits | delivers | submits | sends | setsWrites | elapses => rfl

/-- Settles O57: no effect of an instruction or a turn writes the parameters. -/
theorem parametersNeverChange : Obligations.ParametersNeverChange := by
  intro s t h
  obtain ⟨ts, ⟨turn, hturn⟩ | ⟨i, hexec⟩⟩ := step_effect h
  · exact hturn.cfg_eq
  · exact hexec.cfg_eq

/-! The receive invariant (R24, R25, R27). -/

/-- The receive invariant speaks of the receive agent's state and the parameters only. -/
theorem ReceiveInv.of_sameReceive {s t : State} (h : ReceiveInv s) (hsame : SameReceive s t)
    (hcfg : t.cfg = s.cfg) : ReceiveInv t := by
  obtain ⟨hstate, hbuf⟩ := hsame
  rw [ReceiveInv, hstate, hbuf, hcfg]
  exact h

theorem ExecEffect.receiveInv {i : Instr} {s t : State} (h : ExecEffect s i t) (hinv : ReceiveInv s) :
    ReceiveInv t := by
  have hcfg := h.cfg_eq
  cases h with
  | receives _ bs => exact hinv.after_rxChunk bs
  | closes => exact (idle_closeFrame s).receiveInv
  | resets => exact Idle.receiveInv ⟨rfl, rfl⟩
  | begins => exact Idle.receiveInv ⟨rfl, rfl⟩
  | reacts => exact hinv.of_sameReceive (routeEvent_sameReceive .targetReached s) hcfg
  | returns | classifies | sends | issuesBearing | issuesOther | stops | cancels =>
    exact hinv.of_sameReceive (by simp [SameReceive]) hcfg

theorem TurnEffect.receiveInv {turn : Turn} {s t : State} (h : TurnEffect s turn t) (hinv : ReceiveInv s) :
    ReceiveInv t := by
  by_cases hrx : turn = .rx
  · subst hrx
    cases h with
    | waits => exact hinv
    | @receives b bs => exact ReceiveInv.after_rxByte (s := { s with rxIn := bs }) hinv b
  · exact hinv.of_sameReceive (h.sameReceive hrx) h.cfg_eq

/-- Settles O53: received bytes keep the invariant, a close, a reset and INIT end between frames, and nothing else
writes what it speaks of. -/
theorem stepKeepsReceiveInv : Obligations.StepKeepsReceiveInv := by
  intro s t hinv h
  obtain ⟨ts, ⟨turn, hturn⟩ | ⟨i, hexec⟩⟩ := step_effect h
  · exact hturn.receiveInv hinv
  · exact hexec.receiveInv hinv

/-! What the host side's operations leave. -/

theorem closeHandle_frame (k : HandleCond) (s : State) :
    closeHandle k s = { s with pending := (closeHandle k s).pending, handles := (closeHandle k s).handles } := by
  rcases closeHandle_cases k s with ⟨-, h⟩ | ⟨_, -, h⟩ <;> rw [h]

/-- Routing an event writes the correlator's state and the host's records (R200, R217). -/
theorem routeEvent_frame (e : Event) (s : State) :
    routeEvent e s = { s with pending := (routeEvent e s).pending, handles := (routeEvent e s).handles,
                              initCall := (routeEvent e s).initCall,
                              notifications := (routeEvent e s).notifications, log := (routeEvent e s).log } := by
  cases e with
  | ready => rw [routeEvent, endInit_frame]
  | targetReached => rw [routeEvent, onTargetReached_eq, closeHandle_frame]; rfl
  | odometry | unknown | malformed => rfl

/-! The event invariant (R37, R43, R98). -/

theorem eventOk_frameEvent (c : Config) {f : List Byte} (hf : f ≠ []) : eventOk (frameEvent c f) = true := by
  rw [frameEvent]
  cases frameClass c f with
  | ready | targetReached => rfl
  | unknown => simpa [classEvent, eventOk] using hf
  | odometry ld ln rd rn hm hl =>
    simp [classEvent, eventOk, neg_255_le_ticks, ticks_le, parseFixed_le]

/-- A body that holds a byte and no FLAG is closed with an event the block may emit (R98, R150). -/
theorem eventOk_closeEvent {c : Config} {body : List Byte} (hne : body ≠ []) (hflag : c.flag ∉ body) :
    eventOk (closeEvent c body) = true := by
  cases hu : unstuff c body with
  | ok f =>
    rw [closeEvent_of_ok hu]
    refine eventOk_frameEvent c ?_
    rintro rfl
    exact unstuff_ne_nil c hne hu
  | malformed k =>
    have hk : k ≠ .embeddedDelimiter := by
      rintro rfl
      exact hflag (flag_mem_of_unstuff_eq_embeddedDelimiter hu)
    simpa [closeEvent_of_malformed hu, eventOk] using hk

theorem ReceiveInv.flag_notMem_rxBuf {s : State} (h : ReceiveInv s) : s.cfg.flag ∉ s.rxBuf :=
  fun hmem => h.1 _ hmem rfl

theorem eventOk_of_mem_byteOutcome {s : State} (h : ReceiveInv s) (b : Byte) :
    ∀ e ∈ (byteOutcome s.cfg s.rxState s.rxBuf b).events, eventOk e = true := by
  rcases byteOutcome_events_cases s.cfg s.rxState s.rxBuf b with hev | ⟨-, hne, hev⟩ | ⟨-, hev⟩ <;> rw [hev]
  · simp
  · simpa using eventOk_closeEvent hne h.flag_notMem_rxBuf
  · simp [eventOk]

/-- Events that the block may emit are appended to both ends (R43). -/
theorem EventInv.of_append {s t : State} {es : List Event} (h : EventInv s) (hes : ∀ e ∈ es, eventOk e = true)
    (hout : t.evOut = s.evOut ++ es) (hunread : t.evUnread = s.evUnread ++ es) : EventInv t := by
  obtain ⟨hok, pre, hpre⟩ := h
  refine ⟨fun e he => ?_, pre, by rw [hout, hunread, ← hpre, List.append_assoc]⟩
  rw [hout] at he
  exact (List.mem_append.mp he).elim (hok e) (hes e)

/-- The host may read the oldest unread events, and a reset may drop all (R43, R240). -/
theorem EventInv.of_suffix {s t : State} (h : EventInv s) (hout : t.evOut = s.evOut)
    (hunread : t.evUnread <:+ s.evUnread) : EventInv t := by
  rw [EventInv, hout]
  exact ⟨h.1, hunread.trans h.2⟩

theorem EventInv.of_eq {s t : State} (h : EventInv s) (hout : t.evOut = s.evOut) (hunread : t.evUnread = s.evUnread) :
    EventInv t :=
  h.of_suffix hout (hunread ▸ List.suffix_rfl)

theorem EventInv.after_rxByte {s : State} (h : EventInv s) (hinv : ReceiveInv s) (b : Byte) :
    EventInv (rxByte b s) := by
  rw [rxByte_eq_applyOutcome]
  exact h.of_append (eventOk_of_mem_byteOutcome hinv b) rfl rfl

theorem EventInv.after_rxChunk {s : State} (h : EventInv s) (hinv : ReceiveInv s) (w : List Byte) :
    EventInv (rxChunk w s) := by
  induction w generalizing s with
  | nil => exact h
  | cons b w ih => exact ih (h.after_rxByte hinv b) (hinv.after_rxByte b)

theorem EventInv.after_routeEvent {s : State} (h : EventInv s) (e : Event) : EventInv (routeEvent e s) := by
  rw [routeEvent_frame]
  exact h

theorem EventInv.after_transportNote {s : State} (h : EventInv s) (n : TransportNote) :
    EventInv (transportNote n s) := by
  rcases transportNote_cases n s with ⟨_, -, heq⟩ | ⟨-, heq⟩ <;> rw [heq]
  · rw [endInit_frame]
    exact h
  · exact h

theorem ExecEffect.eventInv {i : Instr} {s t : State} (h : ExecEffect s i t) (hinv : ReceiveInv s)
    (hev : EventInv s) : EventInv t := by
  cases h with
  | receives _ bs => exact hev.after_rxChunk hinv bs
  | closes hne =>
    rw [closeFrame_eq]
    exact hev.of_append (es := [closeEvent s.cfg s.rxBuf])
      (by simpa using eventOk_closeEvent hne hinv.flag_notMem_rxBuf) rfl rfl
  | classifies first rest =>
    exact hev.of_append (es := [frameEvent s.cfg (first :: rest)])
      (by simpa using eventOk_frameEvent s.cfg (List.cons_ne_nil first rest)) rfl rfl
  | resets => exact hev.of_suffix rfl List.nil_suffix
  | begins => exact hev.of_suffix rfl List.nil_suffix
  | issuesBearing | issuesOther | stops =>
    rw [returnAfterWrite_frame]
    exact hev.of_eq rfl rfl
  | reacts => exact hev.after_routeEvent .targetReached
  | cancels =>
    rw [closeHandle_frame]
    exact hev
  | returns | sends => exact hev.of_eq rfl rfl

/-- Reading the oldest unread event leaves the latest ones (R43). -/
theorem EventInv.of_evUnread_eq_cons {s : State} {e : Event} {es : List Event} (h : EventInv s)
    (he : s.evUnread = e :: es) : EventInv { s with evUnread := es } :=
  h.of_suffix rfl (he ▸ List.suffix_cons e es)

theorem TurnEffect.eventInv {turn : Turn} {s t : State} (h : TurnEffect s turn t) (hinv : ReceiveInv s)
    (hev : EventInv s) : EventInv t := by
  cases h with
  | @receives b bs => exact EventInv.after_rxByte (s := { s with rxIn := bs }) hev hinv b
  | reacts he => exact (hev.of_evUnread_eq_cons he).after_routeEvent .targetReached
  | routes he => exact (hev.of_evUnread_eq_cons he).after_routeEvent _
  | notes n => exact hev.after_transportNote n
  | waits | delivers | submits | sends | setsWrites | elapses => exact hev.of_eq rfl rfl

/-- Settles O54: what a byte or a close emits is in range by the receive invariant, and the host reads from the front. -/
theorem stepKeepsEventInv : Obligations.StepKeepsEventInv := by
  intro s t hinv hev h
  obtain ⟨ts, ⟨turn, hturn⟩ | ⟨i, hexec⟩⟩ := step_effect h
  · exact hturn.eventInv hinv hev
  · exact hexec.eventInv hinv hev

end Sys2Proof.Machine
end

section
/-! The correlator's invariant: what an operation does to PENDING and the handles, and that a handle settles once
(44_host_correlator.md R191 to R203). -/

namespace Sys2Proof.Machine

theorem correlatorInv_iff {s : State} : CorrelatorInv s ↔
    (∀ h, s.pending = some h → s.handles[h]? = some .unresolved) ∧
      ∀ h, s.handles[h]? = some .unresolved → s.pending = some h := by
  have hpend : pendingUnresolved s = true ↔ ∀ h, s.pending = some h → s.handles[h]? = some .unresolved := by
    unfold pendingUnresolved
    cases s.pending <;> simp
  rw [CorrelatorInv, hpend]
  refine and_congr_right fun _ => ⟨fun hall h hh => hall h ?_ hh, fun hall h _ => hall h⟩
  exact (List.getElem?_eq_some_iff.mp hh).1

/-- What one operation does to PENDING and the handles: nothing, a new handle where the slot is free, or the pending
handle takes a condition that settles it (R192, R195, R197). -/
def CorrelatorMove (s t : State) : Prop :=
  SameCorrelator s t ∨
  s.pending = none ∧ t.pending = some s.handles.length ∧ t.handles = s.handles ++ [.unresolved] ∨
  ∃ h k, s.pending = some h ∧ k ≠ .unresolved ∧ t.pending = none ∧ t.handles = s.handles.set h k

theorem closeHandle_correlatorMove {k : HandleCond} (hk : k ≠ .unresolved) (s : State) :
    CorrelatorMove s (closeHandle k s) := by
  rcases closeHandle_cases k s with ⟨-, heq⟩ | ⟨h, hp, heq⟩ <;> rw [heq]
  · exact .inl ⟨rfl, rfl⟩
  · exact .inr (.inr ⟨h, k, hp, hk, rfl, rfl⟩)

theorem onTargetReached_correlatorMove (s : State) : CorrelatorMove s (onTargetReached s) :=
  closeHandle_correlatorMove (k := .resolved) (by decide) s

theorem ExecEffect.correlatorMove {i : Instr} {s t : State} (h : ExecEffect s i t) : CorrelatorMove s t := by
  cases h with
  | issuesBearing _ _ hp => exact .inr (.inl ⟨hp, by simp, by simp⟩)
  | reacts => exact onTargetReached_correlatorMove s
  | cancels => exact closeHandle_correlatorMove (by decide) s
  | returns | receives | closes | classifies | sends | resets | issuesOther | stops | begins =>
    exact .inl (by simp [SameCorrelator])

theorem TurnEffect.correlatorMove {turn : Turn} {s t : State} (h : TurnEffect s turn t) : CorrelatorMove s t := by
  by_cases hev : turn ≠ .host ∨ s.evUnread.head? ≠ some .targetReached
  · exact .inl (h.sameCorrelator hev)
  · cases h with
    | @reacts es => exact onTargetReached_correlatorMove { s with evUnread := es }
    | routes he hne => simp [he, hne] at hev
    | waits => exact .inl ⟨rfl, rfl⟩
    | delivers | submits | sends | receives | notes | setsWrites | elapses => simp at hev

theorem step_correlatorMove {s t : State} (h : step s = .next t) : CorrelatorMove s t := by
  obtain ⟨ts, ⟨turn, hturn⟩ | ⟨i, hexec⟩⟩ := step_effect h
  · exact hturn.correlatorMove
  · exact hexec.correlatorMove

/-- With the slot free every handle is settled, so a new one alone is unresolved; the pending handle is the unresolved
one, so settling it leaves none (R195, R197, R198). -/
theorem CorrelatorInv.of_correlatorMove {s t : State} (h : CorrelatorInv s) (hmove : CorrelatorMove s t) :
    CorrelatorInv t := by
  rw [correlatorInv_iff] at h ⊢
  obtain ⟨hheld, honly⟩ := h
  rcases hmove with ⟨hpend, hhandles⟩ | ⟨hp, hpend, hhandles⟩ | ⟨n, k, hp, hk, hpend, hhandles⟩ <;>
    rw [hpend, hhandles]
  · exact ⟨hheld, honly⟩
  · refine ⟨by simp, fun m hm => ?_⟩
    rw [List.getElem?_append] at hm
    split_ifs at hm with hlt
    · have hpm := honly m hm
      rw [hp] at hpm
      cases hpm
    · have hlen : m - s.handles.length = 0 := by
        by_contra hpos
        simp [hpos] at hm
      exact congrArg some (by omega)
  · refine ⟨by simp, fun m hm => ?_⟩
    rw [List.getElem?_set] at hm
    split_ifs at hm with hnm hlt
    · exact absurd (Option.some.inj hm) hk
    · have hpm := honly m hm
      rw [hp, Option.some.injEq] at hpm
      exact absurd hpm hnm

/-- Settles O55: a handle opens in a free slot, and settling takes the pending one. -/
theorem stepKeepsCorrelatorInv : Obligations.StepKeepsCorrelatorInv := fun _ _ hinv h =>
  hinv.of_correlatorMove (step_correlatorMove h)

/-- Settles O56: a new handle is put after the old ones, and the only handle written is the pending one, which by the
invariant is unresolved. -/
theorem handlesSettleOnce : Obligations.HandlesSettleOnce := by
  intro s t hinv h
  rcases step_correlatorMove h with ⟨-, hsame⟩ | ⟨-, -, hopen⟩ | ⟨n, k, hp, -, -, hclose⟩
  · rw [hsame]
    exact ⟨le_rfl, fun _ _ _ => rfl⟩
  · rw [hopen]
    exact ⟨by simp, fun m hm _ => List.getElem?_append_left hm⟩
  · rw [hclose]
    refine ⟨by simp, fun m _ hsettled => List.getElem?_set_ne ?_⟩
    rintro rfl
    exact hsettled ((correlatorInv_iff.mp hinv).1 n hp)

end Sys2Proof.Machine
end

section
/-! The streams and the host's records only grow, the reset state is safe, and which calls are refused
(20_memory.md R41 to R47; 60_exceptions.md R214; 70_reset_and_hazards.md R240). -/

namespace Sys2Proof.Machine

/-! The streams (R41, R43, R47). -/

/-- The histories and the host's records of `s` are the beginnings of those of `t`. -/
def StreamsGrow (s t : State) : Prop :=
  s.txStream <+: t.txStream ∧ s.rxStream <+: t.rxStream ∧ s.evOut <+: t.evOut ∧
    s.notifications <+: t.notifications ∧ s.log <+: t.log

theorem StreamsGrow.refl (s : State) : StreamsGrow s s := by simp [StreamsGrow]

theorem StreamsGrow.trans {s t u : State} (hst : StreamsGrow s t) (htu : StreamsGrow t u) : StreamsGrow s u := by
  obtain ⟨htx, hrx, hev, hnote, hlog⟩ := hst
  obtain ⟨htx', hrx', hev', hnote', hlog'⟩ := htu
  exact ⟨htx.trans htx', hrx.trans hrx', hev.trans hev', hnote.trans hnote', hlog.trans hlog'⟩

theorem rxByte_streamsGrow (b : Byte) (s : State) : StreamsGrow s (rxByte b s) := by
  rw [rxByte_eq_applyOutcome]
  simp [StreamsGrow, applyOutcome]

theorem rxChunk_streamsGrow (w : List Byte) (s : State) : StreamsGrow s (rxChunk w s) := by
  induction w generalizing s with
  | nil => exact StreamsGrow.refl s
  | cons b w ih => exact (rxByte_streamsGrow b s).trans (ih _)

theorem txCmd_streamsGrow (c : Cmd) (s : State) : StreamsGrow s (txCmd c s) := by simp [StreamsGrow]

theorem closeHandle_streamsGrow (k : HandleCond) (s : State) : StreamsGrow s (closeHandle k s) := by
  rw [closeHandle_frame]
  exact StreamsGrow.refl s

theorem publish_streamsGrow (n : Notification) (s : State) : StreamsGrow s (publish n s) := by simp [StreamsGrow]

theorem endInit_streamsGrow (r : InitCall) (s : State) : StreamsGrow s (endInit r s) := by
  rw [endInit_frame]
  exact StreamsGrow.refl s

theorem routeEvent_streamsGrow (e : Event) (s : State) : StreamsGrow s (routeEvent e s) := by
  cases e with
  | ready => exact endInit_streamsGrow _ s
  | odometry => exact publish_streamsGrow _ s
  | targetReached => exact (closeHandle_streamsGrow _ s).trans (publish_streamsGrow _ _)
  | unknown | malformed => simp [StreamsGrow, routeEvent]

theorem transportNote_streamsGrow (n : TransportNote) (s : State) : StreamsGrow s (transportNote n s) := by
  rcases transportNote_cases n s with ⟨_, -, h⟩ | ⟨-, h⟩ <;> rw [h]
  · exact (publish_streamsGrow _ s).trans (endInit_streamsGrow _ _)
  · exact publish_streamsGrow (.transport n) s

theorem ExecEffect.streamsGrow {i : Instr} {s t : State} (h : ExecEffect s i t) : StreamsGrow s t := by
  cases h with
  | receives _ bs => exact rxChunk_streamsGrow bs s
  | closes => simp [StreamsGrow, closeFrame_eq]
  | sends c => exact txCmd_streamsGrow c s
  | issuesBearing | issuesOther | stops =>
    rw [returnAfterWrite_frame]
    exact txCmd_streamsGrow _ s
  | reacts => exact routeEvent_streamsGrow .targetReached s
  | cancels => exact closeHandle_streamsGrow _ s
  | returns | classifies | resets | begins => simp [StreamsGrow]

theorem TurnEffect.streamsGrow {turn : Turn} {s t : State} (h : TurnEffect s turn t) : StreamsGrow s t := by
  cases h with
  | @sends c cs => exact txCmd_streamsGrow c { s with cmdIn := cs }
  | @receives b bs => exact rxByte_streamsGrow b { s with rxIn := bs }
  | @reacts es => exact routeEvent_streamsGrow .targetReached { s with evUnread := es }
  | @routes e es => exact routeEvent_streamsGrow e { s with evUnread := es }
  | notes n => exact transportNote_streamsGrow n s
  | waits | delivers | submits | setsWrites | elapses => exact StreamsGrow.refl s

/-- Settles O58: each effect appends to these five or leaves them. -/
theorem streamsOnlyGrow : Obligations.StreamsOnlyGrow := by
  intro s t h
  obtain ⟨ts, ⟨turn, hturn⟩ | ⟨i, hexec⟩⟩ := step_effect h
  · exact hturn.streamsGrow
  · exact hexec.streamsGrow

/-! Reset and refusals. -/

/-- Settles O2: between frames, with no event emitted and no handle made, each invariant holds of nothing. -/
theorem safeAtReset : Obligations.SafeAtReset := by
  refine ⟨Idle.receiveInv ⟨rfl, rfl⟩, ⟨?_, List.nil_suffix⟩, rfl, ?_⟩
  · exact fun e he => absurd he List.not_mem_nil
  · exact fun h hh => absurd hh (Nat.not_lt_zero h)

/-- Settles O3: RESET is the emptying of the receive state and of the ports. -/
theorem resetOperationEmptiesBlock : Obligations.ResetOperationEmptiesBlock := fun _ => rfl

/-- CLOSEFRAME on an empty buffer is refused (log 10). -/
theorem exec_closeframe_of_rxBuf_eq_nil {s : State} (h : s.rxBuf = []) :
    exec .closeframe s = .refused .closeOfEmptyBuffer := if_pos h

/-- ISSUE of a bearing command is refused while the slot is taken (R198). -/
theorem exec_issue_refused {m : Motion} {s : State} (hm : bearing m = true) (hp : s.pending ≠ none) :
    exec (.issue m) s = .refused .overlappingCompletion :=
  if_pos (by rw [hm, Option.isSome_iff_ne_none.mpr hp]; rfl)

/-- ISSUE of any other command, and of a bearing one with the slot free, is accepted (R192). -/
theorem exec_issue_accepted {m : Motion} {s : State} (h : bearing m = false ∨ s.pending = none) :
    exec (.issue m) s = .next (issueMotion m s) :=
  if_neg (by rcases h with h | h <;> simp [h])

/-- Settles O52: CLOSEFRAME and ISSUE are the only instructions with a guard that refuses, and no fault exists. -/
theorem onlyTwoCallsAreRefused : Obligations.OnlyTwoCallsAreRefused := by
  refine ⟨fun i s => ?_, fun s x => nomatch x⟩
  cases i with
  | closeframe =>
    by_cases hbuf : s.rxBuf = []
    · exact .inr (.inl ⟨exec_closeframe_of_rxBuf_eq_nil hbuf, rfl, hbuf⟩)
    · exact .inl ⟨_, exec_closeframe hbuf⟩
  | issue m =>
    by_cases h : bearing m = false ∨ s.pending = none
    · exact .inl ⟨_, exec_issue_accepted h⟩
    · rw [not_or, Bool.not_eq_false] at h
      exact .inr (.inr ⟨exec_issue_refused h.1 h.2, m, rfl, h.1, h.2⟩)
  | init =>
    by_cases hactive : s.active = true
    · exact .inl ⟨_, if_pos hactive⟩
    · exact .inl ⟨_, if_neg hactive⟩
  -- no other row has a guard
  | _ => exact .inl ⟨_, rfl⟩

end Sys2Proof.Machine
end

section
/-! The rows that receive bytes: which bytes each hands to the receive agent, what an idle agent makes of a body, and the
causes of an ill-formed one (40_frame_codec.md R96 to R103; 42_stream_parser.md R141 to R157). -/

namespace Sys2Proof.Machine

/-! The cause of an ill-formed body (R96 to R98). -/

section IllFormed

variable {c : Config}

/-- An ill-formed place after a well-formed part is the outcome (R96). -/
theorem unstuff_stuff_append_malformed (h : c.codecValid) (p : List Byte) {rest : List Byte} {k : Cause}
    (hrest : unstuff c rest = .malformed k) : unstuff c (stuff c p ++ rest) = .malformed k := by
  rw [unstuff_stuff_append c h, hrest, foldr_consByte_malformed]

theorem unstuff_stuff_append_ok (h : c.codecValid) (p : List Byte) {rest q : List Byte}
    (hrest : unstuff c rest = .ok q) : unstuff c (stuff c p ++ rest) = .ok (p ++ q) := by
  rw [unstuff_stuff_append c h, hrest, foldr_consByte_ok]

/-- On the wire a FLAG after ESC closes the frame; inside a body it is an embedded delimiter (R98). -/
theorem unstuff_escape_flag (h : c.flag ≠ c.esc) (rest : List Byte) :
    unstuff c (c.esc :: c.flag :: rest) = .malformed .embeddedDelimiter := by
  rw [unstuff_escape c h, if_pos rfl]

/-- The strict setting refuses what STUFF never writes after ESC (R97). -/
theorem unstuff_escape_bad (h : c.flag ≠ c.esc) (hs : c.strictUnstuff = true) {e : Byte} (hflag : e ≠ c.flag)
    (hbad : goodEscape c e = false) (rest : List Byte) : unstuff c (c.esc :: e :: rest) = .malformed .badEscape := by
  rw [unstuff_escape c h, if_neg hflag, hs, hbad]
  rfl

theorem goodEscape_eq_false {e : Byte} (hf : e ≠ c.flag ^^^ c.mask) (he : e ≠ c.esc ^^^ c.mask) :
    goodEscape c e = false := by
  simp [goodEscape, hf, he]

end IllFormed

/-- Settles O13: the well-formed part is read back, and what follows it is the first ill-formed place. -/
theorem illFormedBodyCauses : Obligations.IllFormedBodyCauses := by
  intro s p rest hc
  have hfe := hc.1
  simp only [exec_unstuff]
  refine ⟨?dangling, ?delimiter, ?escapedDelimiter, fun e hflag hf he => ⟨fun hs => ?strict, fun hs => ?lenient⟩⟩
  case dangling => rw [unstuff_stuff_append_malformed hc p (unstuff_dangling _ hfe)]
  case delimiter => rw [unstuff_stuff_append_malformed hc p (unstuff_flag _ rest)]
  case escapedDelimiter => rw [unstuff_stuff_append_malformed hc p (unstuff_escape_flag hfe rest)]
  case strict =>
    rw [unstuff_stuff_append_malformed hc p (unstuff_escape_bad hfe hs hflag (goodEscape_eq_false hf he) rest)]
  case lenient =>
    have hread := unstuff_escape_lenient hfe hs hflag (stuff s.cfg rest)
    rw [unstuff_stuff hc, consByte_ok] at hread
    rw [unstuff_stuff_append_ok hc p hread]

/-! The bytes that a receiving row hands over. -/

/-- The wire bytes of a receiving row: a symbol's, a frame's, or those that a call gives (R61, R62, R66 to R68). -/
def receivedBytes (c : Config) : Instr → Option (List Byte)
  | .ready => some (frameEncode c [c.respMarker, c.tagReady])
  | .odometry ld ln rd rn hm hl => some (frameEncode c [c.respMarker, c.tagOdometry, ld, ln, rd, rn, hm, hl])
  | .targetReached => some (frameEncode c [c.respMarker, c.tagTargetReached])
  | .unknown first rest => some (frameEncode c (first :: rest))
  | .delimiter => some [c.flag]
  | .escapedFlag => some [c.esc, c.flag ^^^ c.mask]
  | .escapedEsc => some [c.esc, c.esc ^^^ c.mask]
  | .literal d => some [d]
  | .badEscape e => some [c.esc, e]
  | .danglingEscape => some [c.esc, c.flag]
  | .rxbyte b => some [b]
  | .rxchunk w => some w
  | _ => none

/-- A receiving row is the receiving of its bytes (log 6, log 7). -/
theorem exec_of_receivedBytes {i : Instr} {s : State} {w : List Byte} (h : receivedBytes s.cfg i = some w) :
    exec i s = .next (rxChunk w s) := by
  cases i with
  | ready | odometry | targetReached | unknown | delimiter | escapedFlag | escapedEsc | literal | badEscape
  | danglingEscape | rxbyte | rxchunk => cases h; rfl
  | _ => cases h

theorem Receives.exists_receivedBytes {i : Instr} (h : Receives i) (c : Config) : ∃ w, receivedBytes c i = some w := by
  cases i with
  | ready | odometry | targetReached | unknown | delimiter | escapedFlag | escapedEsc | literal | badEscape
  | danglingEscape | rxbyte | rxchunk => exact ⟨_, rfl⟩
  | _ => simp [Receives, Instr.format] at h

/-! What an idle agent makes of its bytes. -/

/-- Received between frames, the bytes `w` give the events `es` and leave the agent between frames. -/
def Delivers (c : Config) (w : List Byte) (es : List Event) : Prop :=
  ∀ s : State, s.cfg = c → Idle s →
    rxChunk w s = { s with rxStream := s.rxStream ++ w, evOut := s.evOut ++ es, evUnread := s.evUnread ++ es }

section Delivers

variable {c : Config}

theorem Delivers.exec_rxchunk {w : List Byte} {es : List Event} {s : State} (h : Delivers s.cfg w es) (hs : Idle s) :
    exec (.rxchunk w) s = .next { s with rxStream := s.rxStream ++ w, evOut := s.evOut ++ es,
                                         evUnread := s.evUnread ++ es } :=
  congrArg Host.Outcome.next (h s rfl hs)

theorem Delivers.append {v w : List Byte} {es fs : List Event} (hv : Delivers c v es) (hw : Delivers c w fs) :
    Delivers c (v ++ w) (es ++ fs) := by
  intro s hcfg hs
  have hfirst := hv s hcfg hs
  rw [rxChunk_append, hw (rxChunk v s) (by rw [hfirst]; exact hcfg) (by rw [hfirst]; exact hs), hfirst]
  simp

/-- A FLAG with nothing held is fill between frames, and any number of them is (R145). -/
theorem delivers_replicate_flag (c : Config) (n : Nat) : Delivers c (List.replicate n c.flag) [] := by
  induction n with
  | zero => exact fun s _ _ => by simp
  | succ n ih =>
    refine Delivers.append (v := [c.flag]) (es := []) ?_ ih
    rintro s rfl hs
    rw [rxChunk_singleton, rxByte_flag_of_rxBuf_eq_nil (by simp [hs.1]) hs.2]
    simp [consumeByte]

/-- Any body that fits, closed by a FLAG, gives its one event (R149, R157). -/
theorem delivers_body {body : List Byte} (hne : body ≠ []) (hflag : c.flag ∉ body)
    (hroom : withinLimit c body.length = true) : Delivers c (body ++ [c.flag]) [closeEvent c body] := by
  rintro s rfl ⟨hstate, hbuf⟩
  have hbody := rxChunk_store hne (by simp [hstate]) hflag (by simpa [hbuf] using hroom)
  have hclose := rxByte_close (s := rxChunk body s) (by simp [hbody]) (by simpa [hbody, hbuf] using hne)
  rw [rxChunk_cfg, closeFrame_eq] at hclose
  rw [rxChunk_append, rxChunk_singleton, hclose, hbody]
  simp [consumeByte, hstate, hbuf]

/-- A frame that fits gives the event of its payload (R103). -/
theorem delivers_frameEncode (hc : c.codecValid) {p : List Byte} (hp : p ≠ [])
    (hroom : withinLimit c (stuff c p).length = true) : Delivers c (frameEncode c p) [frameEvent c p] := by
  rintro s rfl hs
  exact hs.receive_frameEncode hc hp hroom

end Delivers

/-- Between frames, with room for the body, a row that stands for a frame emits the event of the frame's class. -/
theorem Idle.exec_row {s : State} (h : Idle s) (hc : s.cfg.codecValid) {i : Instr} {f : List Byte} {k : FrameClass}
    {e : Event} (hi : receivedBytes s.cfg i = some (frameEncode s.cfg f)) (hf : f ≠ [])
    (hroom : withinLimit s.cfg (stuff s.cfg f).length = true) (hk : frameClass s.cfg f = k)
    (he : classEvent s.cfg f k = e) :
    exec i s = .next { s with rxStream := s.rxStream ++ frameEncode s.cfg f, evOut := s.evOut ++ [e],
                              evUnread := s.evUnread ++ [e] } := by
  rw [exec_of_receivedBytes hi, delivers_frameEncode hc hf hroom s rfl h, frameEvent_of_class hk, he]

/-! The class of each row's frame, and which rows are well-formed (R66 to R68, R97, R150, R155). -/

section RowClass

variable (c : Config)

theorem frameClass_ready : frameClass c [c.respMarker, c.tagReady] = .ready := by
  rw [frameClass_of_marker (.inr rfl), if_pos rfl]

theorem frameClass_odometry (h : c.tagsValid) (ld ln rd rn hm hl : Byte) :
    frameClass c [c.respMarker, c.tagOdometry, ld, ln, rd, rn, hm, hl] = .odometry ld ln rd rn hm hl := by
  obtain ⟨hro, -, -⟩ := h
  rw [frameClass_of_marker (.inr rfl), if_neg hro.symm, if_pos rfl, odometryClass]

theorem frameClass_targetReached (h : c.tagsValid) :
    frameClass c [c.respMarker, c.tagTargetReached] = .targetReached := by
  obtain ⟨-, hrt, hot⟩ := h
  rw [frameClass_of_marker (.inr rfl), if_neg hrt.symm, if_neg hot.symm, if_pos rfl]

theorem wellFormed_unknown_iff (first : Byte) (rest : List Byte) :
    Instr.wellFormed c (.unknown first rest) = true ↔ frameClass c (first :: rest) = .unknown := beq_iff_eq

theorem wellFormed_badEscape_iff (e : Byte) : Instr.wellFormed c (.badEscape e) = true ↔
    e ≠ c.flag ∧ e ≠ c.flag ^^^ c.mask ∧ e ≠ c.esc ^^^ c.mask := by
  simp [Instr.wellFormed, and_assoc]

end RowClass

/-- Settles O17: each row hands over its frame's wire bytes, and between frames these give the event of its class. -/
theorem responseRowsEmit : Obligations.ResponseRowsEmit := by
  intro s ready reached odo hready hreached hodo
  obtain rfl : odo = fun ld ln rd rn hm hl => [s.cfg.respMarker, s.cfg.tagOdometry, ld, ln, rd, rn, hm, hl] := by
    funext ld ln rd rn hm hl
    exact hodo ld ln rd rn hm hl
  subst hready hreached
  refine ⟨⟨rfl, fun _ _ _ _ _ _ => rfl, rfl, fun _ _ => rfl⟩, fun hc htags hidle => ?_⟩
  refine ⟨fun hroom => ?_, fun hroom => ?_, fun ld ln rd rn hm hl e hroom he => ?_, fun first rest hwf hroom => ?_⟩
  · exact hidle.exec_row hc rfl (by simp) hroom (frameClass_ready s.cfg) rfl
  · exact hidle.exec_row hc rfl (by simp) hroom (frameClass_targetReached s.cfg htags) rfl
  · exact hidle.exec_row hc rfl (by simp) hroom (frameClass_odometry s.cfg htags ld ln rd rn hm hl) he.symm
  · exact hidle.exec_row hc rfl (by simp) hroom ((wellFormed_unknown_iff s.cfg first rest).mp hwf) rfl

/-! The symbols of the wire. -/

theorem withinLimit_mono {c : Config} {m n : Nat} (hmn : m ≤ n) (h : withinLimit c n = true) :
    withinLimit c m = true :=
  withinLimit_iff.mpr fun k hk => hmn.trans (withinLimit_iff.mp h k hk)

/-- A symbol without FLAG is held as it came, if the buffer has room for it (R144). -/
theorem exec_symbol {s : State} {i : Instr} {w : List Byte} (hi : receivedBytes s.cfg i = some w) (hne : w ≠ [])
    (hs : s.rxState ≠ .discarding) (hflag : s.cfg.flag ∉ w)
    (hroom : withinLimit s.cfg (s.rxBuf.length + w.length) = true) :
    exec i s = .next { s with rxState := .accumulatingFrame, rxBuf := s.rxBuf ++ w,
                              rxStream := s.rxStream ++ w } := by
  rw [exec_of_receivedBytes hi, rxChunk_store hne hs hflag hroom]

/-- Settles O20: each row hands over its symbol's bytes, and none but DELIMITER's is a FLAG. -/
theorem wireSymbolsAreReceived : Obligations.WireSymbolsAreReceived := by
  refine ⟨fun s => ⟨rfl, rfl, rfl, rfl, fun d => ⟨rfl, rfl⟩⟩, fun s hc hs hroom => ?_⟩
  obtain ⟨hfe, -, hff, -, hef, -⟩ := hc
  refine ⟨fun hbuf => ?_, ?_, ?_, fun d hd => ?_, fun e he => ?_⟩
  · exact congrArg Host.Outcome.next (rxByte_flag_of_rxBuf_eq_nil hs hbuf)
  · exact exec_symbol rfl (by simp) hs (by simp [hfe, hff.symm]) hroom
  · exact exec_symbol rfl (by simp) hs (by simp [hfe, hef.symm]) hroom
  · exact exec_symbol rfl (by simp) hs (by simpa using hd.symm) (withinLimit_mono (by simp) hroom)
  · exact exec_symbol rfl (by simp) hs (by simp [hfe, he.symm]) hroom

/-- A FLAG that closes an ill-formed body, whichever row it comes from, drops the frame and reports the cause (R220). -/
theorem exec_delimiter_of_malformed {u : State} {k : Cause} (hs : u.rxState ≠ .discarding) (hne : u.rxBuf ≠ [])
    (h : unstuff u.cfg u.rxBuf = .malformed k) :
    exec .delimiter u = .next { u with rxState := .awaitingDelimiter, rxBuf := [],
                                       rxStream := u.rxStream ++ [u.cfg.flag],
                                       evOut := u.evOut ++ [.malformed k],
                                       evUnread := u.evUnread ++ [.malformed k] } :=
  congrArg Host.Outcome.next (rxByte_flag_of_unstuff_eq_malformed hs hne h)

/-- Settles O21: the ESC, or ESC and its bad byte, is held after the well-formed bytes, and the FLAG finds it. -/
theorem illFormedSymbolsAreReported : Obligations.IllFormedSymbolsAreReported := by
  intro s p hc hs hbuf hroom
  have hfe := hc.1
  refine ⟨?_, fun e hwf hstrict => ?_⟩
  · have hesc := rxChunk_store (body := [s.cfg.esc]) (by simp) hs (by simpa using hfe)
      (withinLimit_mono (by simp) hroom)
    have hcause : unstuff s.cfg (s.rxBuf ++ [s.cfg.esc]) = .malformed .danglingEscape := by
      rw [hbuf]
      exact unstuff_stuff_append_malformed hc p (unstuff_dangling _ hfe)
    have hclose := exec_delimiter_of_malformed (u := rxChunk [s.cfg.esc] s) (by simp [hesc]) (by simp [hesc])
      (by simpa [hesc] using hcause)
    calc exec .danglingEscape s
      _ = exec .delimiter (rxChunk [s.cfg.esc] s) := by
        rw [exec_of_receivedBytes (w := [s.cfg.esc] ++ [s.cfg.flag]) rfl, rxChunk_append,
          exec_of_receivedBytes (w := [s.cfg.flag]) (by rw [rxChunk_cfg]; rfl)]
      _ = _ := by
        rw [hclose, hesc]
        simp
  · obtain ⟨hflag, hf, he⟩ := (wellFormed_badEscape_iff s.cfg e).mp hwf
    have hcause : unstuff s.cfg (s.rxBuf ++ [s.cfg.esc, e]) = .malformed .badEscape := by
      rw [hbuf]
      exact unstuff_stuff_append_malformed hc p
        (unstuff_escape_bad hfe hstrict hflag (goodEscape_eq_false hf he) [])
    refine ⟨_, exec_symbol (w := [s.cfg.esc, e]) rfl (by simp) hs (by simp [hfe, hflag.symm]) hroom, rfl, ?_⟩
    exact exec_delimiter_of_malformed (by simp) (by simp) hcause

/-! Frames one after another. -/

/-- Settles O22: the empty payload is one FLAG between frames; any other is received as a frame. -/
theorem streamRoundTrip : Obligations.StreamRoundTrip := by
  rintro s p es hc hidle hroom rfl
  split_ifs with hp
  · rw [hp]
    exact (delivers_replicate_flag s.cfg 1).exec_rxchunk hidle
  · exact (delivers_frameEncode hc hp hroom).exec_rxchunk hidle

/-- Settles O23: extra FLAGs are fill between frames; bytes without FLAG join the body that follows them. -/
theorem resynchronisationTests : Obligations.ResynchronisationTests := by
  intro s f1 f2 hc hidle hf1 hf2 hroom1
  have hfirst := delivers_frameEncode hc hf1 hroom1
  have hfill := delivers_replicate_flag s.cfg
  constructor
  · rintro a b k w hroom2 rfl
    have hsecond := delivers_frameEncode hc hf2 hroom2
    exact (((((hfill a).append hfirst).append (hfill b)).append hsecond).append (hfill k)).exec_rxchunk hidle
  · rintro g w hg hflag hroom rfl
    have hjoined := delivers_body (by simp [hg]) (by simp [hflag, flag_notMem_stuff hc f2]) hroom
    refine ⟨closeEvent s.cfg (g ++ stuff s.cfg f2), ?_, fun _ => closeEvent_of_malformed, fun _ => closeEvent_of_ok⟩
    have hwire : frameEncode s.cfg f1 ++ g ++ frameEncode s.cfg f2 =
        frameEncode s.cfg f1 ++ (g ++ stuff s.cfg f2 ++ [s.cfg.flag]) := by simp [frameEncode]
    rw [hwire]
    exact (hfirst.append hjoined).exec_rxchunk hidle

end Sys2Proof.Machine

namespace Sys2Proof.Laws

open Sys2Proof.Machine

/-- Settles O30: the received bytes have the frame of RXCHUNK, and a close and CLASSIFY write no more. -/
theorem receiveFrame : Obligations.ReceiveFrame := by
  intro i s t hi h
  have hrow : Receives i ∨ i = .closeframe ∨ ∃ f r, i = .classify f r := by
    rcases hi with hrsp | hwire | hbyte | hchunk | hclose | hclassify
    · exact .inl (.inr (.inl hrsp))
    · exact .inl (.inl hwire)
    · exact .inl (.inr (.inr (.inl hbyte)))
    · exact .inl (.inr (.inr (.inr hchunk)))
    · exact .inr (.inl hclose)
    · exact .inr (.inr hclassify)
  rcases hrow with hreceives | rfl | ⟨first, rest, rfl⟩
  · obtain ⟨w, hw⟩ := hreceives.exists_receivedBytes s.cfg
    rw [exec_of_receivedBytes hw] at h
    cases h
    rw [rxChunk_frame]
  · by_cases hbuf : s.rxBuf = []
    · rw [exec_closeframe_of_rxBuf_eq_nil hbuf] at h
      cases h
    · rw [exec_closeframe hbuf] at h
      cases h
      rw [closeFrame_eq]
  · rw [exec_classify] at h
    cases h
    rfl

end Sys2Proof.Laws
end

section
/-! The decoder against the encoder: a command's slots read back, the class of an inbound frame, the symbols of the wire,
and what a decoded instruction is (30_encoding.md R62 to R82; 41_command_encoder.md R110 to R117; log 8). -/

namespace Sys2Proof.Machine

/-! The bytes of an argument that is carried without loss (R113 to R115). -/

theorem toNat_u8_of_range {v : Int} (h0 : 0 ≤ v) (h1 : v ≤ 255) : ((u8 v).toNat : Int) = v := by
  rw [toNat_u8, max_eq_left h0, min_eq_left h1]

theorem toNat_mag_of_range {v : Int} (h0 : -255 ≤ v) (h1 : v ≤ 255) : ((mag v).toNat : Int) = |v| := by
  rw [toNat_mag, min_eq_left (abs_le.mpr ⟨h0, h1⟩)]

theorem mag_eq_zero_iff {v : Int} (h0 : -255 ≤ v) (h1 : v ≤ 255) : mag v = 0 ↔ v = 0 := by
  rw [← BitVec.toNat_inj, ← abs_eq_zero, ← toNat_mag_of_range h0 h1]
  simp

theorem dirByte_eq_negByte_iff (k : SignConv) (v : Int) : dirByte k v = negByte k ↔ v < 0 := by
  rcases lt_or_ge v 0 with hv | hv
  · simp [dirByte_of_neg k hv, hv]
  · simp [dirByte_of_nonneg k hv, (negByte_ne_nonnegByte k).symm, hv]

/-- Magnitude and direction give the value back, zero among them (R113, R114). -/
theorem signedValue_mag_dirByte (k : SignConv) {v : Int} (h0 : -255 ≤ v) (h1 : v ≤ 255) :
    signedValue k (mag v) (dirByte k v) = .ok v := by
  have hdir : ¬(dirByte k v ≠ 0 ∧ dirByte k v ≠ 1) := fun h =>
    (dirByte_eq_zero_or_one k v).elim h.1 h.2
  have hmag := toNat_mag_of_range h0 h1
  rw [signedValue, if_neg hdir]
  split_ifs with hzero hneg
  · rw [(mag_eq_zero_iff h0 h1).mp hzero]
  · rw [hmag, abs_of_neg ((dirByte_eq_negByte_iff k v).mp hneg), neg_neg]
  · rw [hmag, abs_of_nonneg (not_lt.mp fun hv => hneg ((dirByte_eq_negByte_iff k v).mpr hv))]

/-- A magnitude byte and a direction byte denote a value in the range of an `SM` slot (R113). -/
theorem range_of_signedValue_eq_ok {k : SignConv} {m d : Byte} {v : Int} (h : signedValue k m d = .ok v) :
    -255 ≤ v ∧ v ≤ 255 := by
  have hm := m.isLt
  unfold signedValue at h
  split_ifs at h <;> cases h <;> omega

/-! One slot, and the slots of a layout (R69, R116). -/

/-- A value that a slot of the kind carries without loss. -/
def kindCarries : SlotKind → ArgValue → Bool
  | .u8, .int v => decide (0 ≤ v ∧ v ≤ 255)
  | .sm, .int v => decide (-255 ≤ v ∧ v ≤ 255)
  | .bool, .bool _ => true
  | _, _ => false

theorem slotCarries_iff {cmd : Cmd} {sl : Slot} :
    slotCarries cmd sl = true ↔ ∃ v, argOf cmd sl.arg = some v ∧ kindCarries sl.kind v = true := by
  unfold slotCarries
  rcases hv : argOf cmd sl.arg with _ | ⟨b | n⟩ <;> cases sl.kind <;> simp [kindCarries]

/-- Only a `BOOL` slot carries a Boolean (R115). -/
theorem exists_int_of_kindCarries {k : SlotKind} {v : ArgValue} (hk : k ≠ .bool) (h : kindCarries k v = true) :
    ∃ n, v = .int n := by
  cases v with
  | int n => exact ⟨n, rfl⟩
  | bool b => cases k <;> simp_all [kindCarries]

section Slots

variable {c : Config} {cmd : Cmd}

/-- A slot is read back from the bytes it wrote (R113, R115). -/
theorem takeSlot_slotBytes {sl : Slot} {v : ArgValue} (hv : argOf cmd sl.arg = some v)
    (hcarry : kindCarries sl.kind v = true)
    (hconv : sl.kind = .sm → (c.signConv.conv cmd.opcode).isSome = true) (bs : List Byte) :
    takeSlot (c.signConv.conv cmd.opcode) sl (slotBytes c cmd sl ++ bs) = .ok (v, bs) := by
  obtain ⟨kind, a⟩ := sl
  cases kind with
  | u8 =>
    obtain ⟨n, rfl⟩ := exists_int_of_kindCarries (by simp) hcarry
    obtain ⟨h0, h1⟩ : 0 ≤ n ∧ n ≤ 255 := by simpa [kindCarries] using hcarry
    simp [slotBytes_u8 c hv, takeSlot, toNat_u8_of_range h0 h1]
  | sm =>
    obtain ⟨n, rfl⟩ := exists_int_of_kindCarries (by simp) hcarry
    obtain ⟨h0, h1⟩ : -255 ≤ n ∧ n ≤ 255 := by simpa [kindCarries] using hcarry
    obtain ⟨k, hk⟩ := Option.isSome_iff_exists.mp (hconv rfl)
    simp [slotBytes_sm c hv hk, takeSlot, hk, signedValue_mag_dirByte k h0 h1, Except.map]
  | bool =>
    cases v with
    | int n => simp [kindCarries] at hcarry
    | bool b => cases b <;> simp [slotBytes, hv, takeSlot, boolByte, truth]

/-- The arguments that the slots of a command carry, by name. -/
def slotArgs (cmd : Cmd) (sls : List Slot) : List (ArgName × ArgValue) :=
  sls.filterMap fun sl => (argOf cmd sl.arg).map fun v => (sl.arg, v)

/-- The slots of a command are read back, whatever follows them. -/
theorem takeSlots_slotBytes {sls : List Slot} (hcarry : ∀ sl ∈ sls, slotCarries cmd sl = true)
    (hconv : ∀ sl ∈ sls, sl.kind = .sm → (c.signConv.conv cmd.opcode).isSome = true) (rest : List Byte) :
    takeSlots (c.signConv.conv cmd.opcode) sls (sls.flatMap (slotBytes c cmd) ++ rest) =
      .ok (slotArgs cmd sls, rest) := by
  induction sls with
  | nil => rfl
  | cons sl sls ih =>
    rw [List.forall_mem_cons] at hcarry hconv
    obtain ⟨v, hv, hk⟩ := slotCarries_iff.mp hcarry.1
    rw [List.flatMap_cons, List.append_assoc, takeSlots, takeSlot_slotBytes hv hk hconv.1]
    simp only [ih hcarry.2 hconv.2]
    simp [slotArgs, hv]

end Slots

/-! The commands under the default LAYOUT. -/

/-- The default table has `SM` slots only where SIGN_CONV is defined (R114, R116). -/
theorem isSome_conv_of_default_sm (t : SignTable) (op : Opcode) :
    ∀ sl ∈ Layout.default.slots op, sl.kind = .sm → (t.conv op).isSome = true := by
  cases op <;> simp [Layout.default, Layout.slots, SignTable.conv]

/-- The default table has a slot for every argument (R116). -/
theorem carried_iff_of_defaultLayout {c : Config} (hl : c.layout = Layout.default) (cmd : Cmd) :
    cmd.carried c = true ↔ ∀ sl ∈ Layout.default.slots cmd.opcode, slotCarries cmd sl = true := by
  have hargs : (cmd.opcode.args.all fun a => ((Layout.default.slots cmd.opcode).map (·.arg)).contains a) = true := by
    cases cmd.opcode <;> rfl
  rw [Cmd.carried, hl, hargs, Bool.and_true, List.all_eq_true]

theorem format_of_command {i : Instr} {cmd : Cmd} (h : i.command = some cmd) : i.format = .cmd := by
  cases i with
  | forward | reverse | rotate | turn | driveRaw | stop | keepHeading | resetOrientation => rfl
  | _ => cases h

theorem encode_of_command {i : Instr} {cmd : Cmd} (h : i.command = some cmd) (c : Config) :
    encode c i = some (cmdEncode c cmd) := by
  cases i with
  | forward | reverse | rotate | turn | driveRaw | stop | keepHeading | resetOrientation => cases h; rfl
  | _ => cases h

theorem wellFormed_of_command {i : Instr} {cmd : Cmd} (h : i.command = some cmd) (c : Config) :
    i.wellFormed c = cmd.carried c := by
  cases i with
  | forward | reverse | rotate | turn | driveRaw | stop | keepHeading | resetOrientation => cases h; rfl
  | _ => cases h

/-- A command's own arguments build its instruction (R70). -/
theorem buildCommand_slotArgs {i : Instr} {cmd : Cmd} (h : i.command = some cmd) :
    buildCommand (slotArgs cmd (Layout.default.slots cmd.opcode)) cmd.opcode = .ok i := by
  cases i with
  | forward | reverse | rotate | turn | driveRaw | stop | keepHeading | resetOrientation => cases h; rfl
  | _ => cases h

/-- A command that is carried is read back from its decoded frame (R71). -/
theorem decodeCmd_cmdEncode {c : Config} (hl : c.layout = Layout.default) {i : Instr} {cmd : Cmd}
    (hi : i.command = some cmd) (hcarried : cmd.carried c = true) (rest : List Byte) :
    decodeCmd c (cmdEncode c cmd ++ rest) = .ok (i, rest) := by
  have hslots := takeSlots_slotBytes ((carried_iff_of_defaultLayout hl cmd).mp hcarried)
    (isSome_conv_of_default_sm c.signConv cmd.opcode) rest
  rw [← hl] at hslots
  have hop : opcodeOf (opcodeByte cmd.opcode) = some cmd.opcode := opcodeOf_eq_some_iff.mpr rfl
  simp only [cmdEncode, List.cons_append, List.nil_append, decodeCmd, ne_eq, not_true_eq_false, if_false, hop, hslots]
  rw [hl, buildCommand_slotArgs hi]

/-- A slot yields a value that it carries. -/
theorem kindCarries_of_takeSlot_eq_ok {k? : Option SignConv} {sl : Slot} {bs left : List Byte} {v : ArgValue}
    (h : takeSlot k? sl bs = .ok (v, left)) : kindCarries sl.kind v = true := by
  unfold takeSlot at h
  split at h
  next b bs hk =>
    cases h
    have hb := b.isLt
    simp only [hk, kindCarries, decide_eq_true_eq]
    omega
  next b bs hk => split_ifs at h <;> cases h <;> rw [hk] <;> rfl
  next m d bs hk =>
    split at h
    · cases h
    next k =>
      cases hv : signedValue k m d with
      | error e => simp [hv, Except.map] at h
      | ok n =>
        simp only [hv, Except.map, Except.ok.injEq, Prod.mk.injEq] at h
        rw [hk, ← h.1]
        exact decide_eq_true (range_of_signedValue_eq_ok hv)
  next => cases h

/-- The argument read from a slot: the slot's name, and a value that the slot carries. -/
def ReadFrom (sl : Slot) (arg : ArgName × ArgValue) : Prop :=
  ∃ v, arg = (sl.arg, v) ∧ kindCarries sl.kind v = true

theorem forall₂_readFrom_of_takeSlots_eq_ok {k? : Option SignConv} {sls : List Slot} {bs left : List Byte}
    {as : List (ArgName × ArgValue)} (h : takeSlots k? sls bs = .ok (as, left)) : List.Forall₂ ReadFrom sls as := by
  induction sls generalizing bs as with
  | nil => cases h; exact .nil
  | cons sl sls ih =>
    rw [takeSlots] at h
    split at h
    · cases h
    next v bs' hslot =>
      split at h
      · cases h
      next as' left' hslots =>
        cases h
        exact .cons ⟨v, rfl, kindCarries_of_takeSlot_eq_ok hslot⟩ (ih hslots)

/-- An argument read from a slot that is no `BOOL` slot is an integer. -/
theorem ReadFrom.exists_int {k : SlotKind} {a : ArgName} {arg : ArgName × ArgValue} (h : ReadFrom ⟨k, a⟩ arg)
    (hk : k ≠ .bool) : ∃ n, arg = (a, .int n) ∧ kindCarries k (.int n) = true := by
  obtain ⟨v, rfl, hv⟩ := h
  obtain ⟨n, rfl⟩ := exists_int_of_kindCarries hk hv
  exact ⟨n, rfl, hv⟩

/-- What is built from the arguments read under the default LAYOUT is a command that its slots carry. -/
theorem exists_command_of_buildCommand_eq_ok {op : Opcode} {as : List (ArgName × ArgValue)} {i : Instr}
    (has : List.Forall₂ ReadFrom (Layout.default.slots op) as) (h : buildCommand as op = .ok i) :
    ∃ cmd, i.command = some cmd ∧ ∀ sl ∈ Layout.default.slots cmd.opcode, slotCarries cmd sl = true := by
  cases op with
  | forward | reverse | rotate | driveRaw =>
    obtain _ | ⟨h1, _ | ⟨h2, _ | _⟩⟩ := has
    obtain ⟨n1, rfl, hn1⟩ := h1.exists_int (by simp)
    obtain ⟨n2, rfl, hn2⟩ := h2.exists_int (by simp)
    cases h
    exact ⟨_, rfl, by simp [Layout.slots, Layout.default, Cmd.opcode, Motion.opcode, slotCarries_iff, argOf, hn1, hn2]⟩
  | turn | keepHeading =>
    obtain _ | ⟨h1, _ | ⟨h2, _ | ⟨h3, _ | _⟩⟩⟩ := has
    obtain ⟨n1, rfl, hn1⟩ := h1.exists_int (by simp)
    obtain ⟨n2, rfl, hn2⟩ := h2.exists_int (by simp)
    obtain ⟨n3, rfl, hn3⟩ := h3.exists_int (by simp)
    cases h
    exact ⟨_, rfl, by
      simp [Layout.slots, Layout.default, Cmd.opcode, Motion.opcode, slotCarries_iff, argOf, hn1, hn2, hn3]⟩
  | stop =>
    obtain _ | ⟨⟨v, rfl, hv⟩, _ | _⟩ := has
    cases h
    exact ⟨.stop v, rfl, by simpa [Layout.slots, Layout.default, Cmd.opcode, slotCarries_iff, argOf] using hv⟩
  | resetOrientation =>
    cases h
    exact ⟨_, rfl, by simp [Layout.slots, Layout.default, Cmd.opcode, Motion.opcode]⟩

/-- A decoded command is well-formed (R71; log 8). -/
theorem wellFormed_of_decodeCmd_eq_ok {c : Config} (hl : c.layout = Layout.default) {bs left : List Byte} {i : Instr}
    (h : decodeCmd c bs = .ok (i, left)) : i.wellFormed c = true ∧ i.format = .cmd := by
  unfold decodeCmd at h
  split at h
  · cases h
  · split_ifs at h
  · split_ifs at h
    split at h
    · cases h
    next op _ =>
      split at h
      · cases h
      next as rest hslots =>
        split at h
        · cases h
        next j hbuild =>
          cases h
          rw [hl] at hslots
          obtain ⟨cmd, hcmd, hcarries⟩ :=
            exists_command_of_buildCommand_eq_ok (forall₂_readFrom_of_takeSlots_eq_ok hslots) hbuild
          rw [wellFormed_of_command hcmd, carried_iff_of_defaultLayout hl]
          exact ⟨hcarries, format_of_command hcmd⟩

/-! The inbound frames (R66 to R68). -/

/-- The instruction that a frame of a class stands for (R66). -/
def classInstr (first : Byte) (rest : List Byte) : FrameClass → Instr
  | .ready => .ready
  | .odometry q0 q1 q2 q3 q4 q5 => .odometry q0 q1 q2 q3 q4 q5
  | .targetReached => .targetReached
  | .unknown => .unknown first rest

/-- An inbound frame is read as the instruction of its class, as a whole (R76). -/
theorem decodeRsp_cons (c : Config) (first : Byte) (rest : List Byte) :
    decodeRsp c (first :: rest) = .ok (classInstr first rest (frameClass c (first :: rest)), []) := by
  simp only [decodeRsp]
  cases frameClass c (first :: rest) with
  | ready | odometry | targetReached | unknown => rfl

theorem decodeRsp_of_frameClass {c : Config} {first : Byte} {rest : List Byte} {k : FrameClass}
    (hk : frameClass c (first :: rest) = k) : decodeRsp c (first :: rest) = .ok (classInstr first rest k, []) := by
  rw [decodeRsp_cons, hk]

/-- A decoded inbound frame is well-formed: an unknown one is of no known class (R155). -/
theorem wellFormed_of_decodeRsp_eq_ok {c : Config} {bs left : List Byte} {i : Instr}
    (h : decodeRsp c bs = .ok (i, left)) : i.wellFormed c = true ∧ i.format = .rsp := by
  cases bs with
  | nil => cases h
  | cons first rest =>
    cases hk : frameClass c (first :: rest) with
    | ready | odometry | targetReached =>
      rw [decodeRsp_of_frameClass hk] at h
      cases h
      exact ⟨rfl, rfl⟩
    | unknown =>
      rw [decodeRsp_of_frameClass hk] at h
      cases h
      exact ⟨(wellFormed_unknown_iff c first rest).mpr hk, rfl⟩

/-! The symbols of the wire (R62, R97, R98). -/

section Wire

variable {c : Config}

theorem decodeWire_flag (rest : List Byte) : decodeWire c (c.flag :: rest) = .ok (.delimiter, rest) := by
  cases rest <;> simp [decodeWire]

theorem decodeWire_plain {d : Byte} (hf : d ≠ c.flag) (he : d ≠ c.esc) (rest : List Byte) :
    decodeWire c (d :: rest) = .ok (.literal d, rest) := by
  cases rest <;> simp [decodeWire, hf, he]

theorem decodeWire_escape (h : c.flag ≠ c.esc) (e : Byte) (rest : List Byte) :
    decodeWire c (c.esc :: e :: rest) =
      if e = c.flag then .ok (.danglingEscape, rest)
      else if e = c.flag ^^^ c.mask then .ok (.escapedFlag, rest)
      else if e = c.esc ^^^ c.mask then .ok (.escapedEsc, rest)
      else .ok (.badEscape e, rest) := by
  simp [decodeWire, h.symm]

theorem wellFormed_literal_iff (d : Byte) :
    Instr.wellFormed c (.literal d) = true ↔ d ≠ c.flag ∧ d ≠ c.esc := by
  simp [Instr.wellFormed]

/-- A decoded symbol is well-formed, and its bytes and the rest are what was read. -/
theorem decodeWire_eq_ok {bs left : List Byte} {i : Instr} (h : decodeWire c bs = .ok (i, left)) :
    i.wellFormed c = true ∧ i.format = .wire ∧ ∃ w, encode c i = some w ∧ bs = w ++ left := by
  unfold decodeWire at h
  split at h
  · cases h
  next b =>
    split_ifs at h with hf he <;> cases h
    · exact ⟨rfl, rfl, _, rfl, by rw [hf]; rfl⟩
    · exact ⟨(wellFormed_literal_iff b).mpr ⟨hf, he⟩, rfl, _, rfl, rfl⟩
  next b e rest =>
    split_ifs at h with hf he hdangling hflag hesc <;> cases h
    · exact ⟨rfl, rfl, _, rfl, by rw [hf]; rfl⟩
    · exact ⟨rfl, rfl, _, rfl, by rw [he, hdangling]; rfl⟩
    · exact ⟨rfl, rfl, _, rfl, by rw [he, hflag]; rfl⟩
    · exact ⟨rfl, rfl, _, rfl, by rw [he, hesc]; rfl⟩
    · exact ⟨(wellFormed_badEscape_iff c e).mpr ⟨hdangling, hflag, hesc⟩, rfl, _, rfl, by rw [he]; rfl⟩
    · exact ⟨(wellFormed_literal_iff b).mpr ⟨hf, he⟩, rfl, _, rfl, rfl⟩

end Wire

/-- A well-formed CMD row is read back from its encoding, whatever follows. -/
theorem decode_of_command {c : Config} (hl : c.layout = Layout.default) {i : Instr} {cmd : Cmd} {bs : List Byte}
    (hi : i.command = some cmd) (hwf : i.wellFormed c = true) (henc : encode c i = some bs) (rest : List Byte) :
    decode c .cmd (bs ++ rest) = .ok (i, rest) := by
  rw [wellFormed_of_command hi] at hwf
  rw [encode_of_command hi, Option.some.injEq] at henc
  rw [← henc]
  exact decodeCmd_cmdEncode hl hi hwf rest

/-- Settles O49: a command slot by slot, an inbound frame by its class, a symbol by the byte after its ESC. -/
theorem decodeEncodeRoundTrip : Obligations.DecodeEncodeRoundTrip := by
  intro c i bs rest hc htags hl hwf henc
  obtain ⟨hfe, -, hff, -, hef, -⟩ := hc
  cases i with
  | forward | reverse | rotate | turn | driveRaw | stop | keepHeading | resetOrientation =>
    exact ⟨fun _ => decode_of_command hl rfl hwf henc rest, fun h => by cases h⟩
  | ready => cases henc; exact ⟨fun h => absurd rfl h, fun _ => decodeRsp_of_frameClass (frameClass_ready c)⟩
  | odometry ld ln rd rn hm hl =>
    cases henc
    exact ⟨fun h => absurd rfl h, fun _ => decodeRsp_of_frameClass (frameClass_odometry c htags ld ln rd rn hm hl)⟩
  | targetReached =>
    cases henc
    exact ⟨fun h => absurd rfl h, fun _ => decodeRsp_of_frameClass (frameClass_targetReached c htags)⟩
  | unknown first more =>
    cases henc
    exact ⟨fun h => absurd rfl h,
      fun _ => decodeRsp_of_frameClass ((wellFormed_unknown_iff c first more).mp hwf)⟩
  | delimiter => cases henc; exact ⟨fun _ => decodeWire_flag rest, fun h => by cases h⟩
  | literal d =>
    cases henc
    obtain ⟨hf, he⟩ := (wellFormed_literal_iff d).mp hwf
    exact ⟨fun _ => decodeWire_plain hf he rest, fun h => by cases h⟩
  | danglingEscape =>
    cases henc
    exact ⟨fun _ => (decodeWire_escape hfe c.flag rest).trans (if_pos rfl), fun h => by cases h⟩
  | escapedFlag =>
    cases henc
    exact ⟨fun _ => (decodeWire_escape hfe (c.flag ^^^ c.mask) rest).trans (by simp [hff]), fun h => by cases h⟩
  | escapedEsc =>
    cases henc
    exact ⟨fun _ => (decodeWire_escape hfe (c.esc ^^^ c.mask) rest).trans (by simp [hef, hfe.symm]),
      fun h => by cases h⟩
  | badEscape e =>
    cases henc
    obtain ⟨hflag, hf, he⟩ := (wellFormed_badEscape_iff c e).mp hwf
    exact ⟨fun _ => (decodeWire_escape hfe e rest).trans (by simp [hflag, hf, he]), fun h => by cases h⟩
  | _ => cases henc

/-- Settles O50: format by format, from the inversion of its reader. -/
theorem decodedInstructionsAreWellFormed : Obligations.DecodedInstructionsAreWellFormed := by
  intro c f bs left i hl h
  cases f with
  | cmd =>
    obtain ⟨hwf, hformat⟩ := wellFormed_of_decodeCmd_eq_ok hl h
    exact ⟨hwf, hformat, fun hw => by cases hw⟩
  | rsp =>
    obtain ⟨hwf, hformat⟩ := wellFormed_of_decodeRsp_eq_ok h
    exact ⟨hwf, hformat, fun hw => by cases hw⟩
  | wire =>
    obtain ⟨hwf, hformat, hbytes⟩ := decodeWire_eq_ok h
    exact ⟨hwf, hformat, fun _ => hbytes⟩
  | op | host => cases h

/-- Settles O48: each pattern is run through the decoder; magnitude 0 is 0 before the free SIGN_CONV is asked. -/
theorem tableWordsDecode : Obligations.TableWordsDecode :=
  ⟨rfl, rfl, rfl, rfl, rfl, rfl, rfl, rfl, rfl, rfl, rfl⟩

end Sys2Proof.Machine
end

section
/-! The host's calls and the turns of the agenda: ISSUE, STOPCMD and INIT with their writes, the transport's
notifications, and which instruction a turn comes to (44_host_correlator.md R192 to R201; 60_exceptions.md R215;
20_memory.md R40 to R43; log 3, log 13, log 23). -/

namespace Sys2Proof.Machine

/-! Calls that write (R41, R192, R196; log 13). -/

section Writes

variable {s : State}

theorem txCmd_of_writes_ok (hw : s.writeFails = false) (cmd : Cmd) :
    txCmd cmd s = { s with txStream := s.txStream ++ frameEncode s.cfg (cmdEncode s.cfg cmd) } := by
  simpa [hw] using txCmd_cases cmd s

theorem txCmd_of_writes_fail (hw : s.writeFails = true) (cmd : Cmd) :
    txCmd cmd s = { s with txStream := s.txStream ++ frameEncode s.cfg (cmdEncode s.cfg cmd),
                           agenda := agendaWithError s.freeCount s.agenda, freeCount := s.freeCount + 1 } := by
  simpa [hw] using txCmd_cases cmd s

theorem returnAfterWrite_of_writes_ok (hw : s.writeFails = false) (r : Result) :
    returnAfterWrite r s = setResult r s := by
  simpa [hw] using returnAfterWrite_cases r s

theorem returnAfterWrite_of_writes_fail (hw : s.writeFails = true) (r : Result) :
    returnAfterWrite r s = { s with result := .writeFailed (Config.freeCallOutcome s.freeCount),
                                    freeCount := s.freeCount + 1 } := by
  simpa [hw] using returnAfterWrite_cases r s

/-- ISSUE of a bearing command with the slot free (R192). -/
theorem exec_issue_bearing {m : Motion} (hm : bearing m = true) (hp : s.pending = none) :
    exec (.issue m) s =
      .next (returnAfterWrite (.handle s.handles.length) (openHandle (txCmd (.motion m) s))) := by
  rw [exec_issue_accepted (.inr hp), issueMotion, if_pos hm]

/-- ISSUE of any other command (R192, R194). -/
theorem exec_issue_other {m : Motion} (hm : bearing m = false) :
    exec (.issue m) s =
      .next (returnAfterWrite (.immediate (Config.returnsNothing m.opcode)) (txCmd (.motion m) s)) := by
  rw [exec_issue_accepted (.inl hm), issueMotion, if_neg (by simp [hm])]

theorem exec_stopcmd (hard : ArgValue) (s : State) :
    exec (.stopcmd hard) s = .next (returnAfterWrite (.resolvesAfter (stopDelay s.cfg hard))
      (startStopCall (stopDelay s.cfg hard) (txCmd (.stop hard) s))) := rfl

end Writes

/-- Settles O36: the frame is written and the call returns, with the handle opened in between if the command bears one. -/
theorem issueWritesAndTakesTheSlot : Obligations.IssueWritesAndTakesTheSlot := by
  rintro s m _ rfl
  refine ⟨exec_issue_refused, fun hm hp hw => ?_, fun hm hw => ?_⟩
  · rw [exec_issue_bearing hm hp, txCmd_of_writes_ok hw, returnAfterWrite_of_writes_ok (by exact hw)]
    rfl
  · rw [exec_issue_other hm, txCmd_of_writes_ok hw, returnAfterWrite_of_writes_ok (by exact hw)]
    rfl

/-- Settles O38: the handle that ISSUE opens is the one that the next TargetReached settles. -/
theorem issuedCommandCompletes : Obligations.IssuedCommandCompletes := by
  intro s m hm hp
  refine ⟨_, _, exec_issue_bearing hm hp, by simp, by simp, exec_ontargetreached _, ?_, ?_⟩ <;>
    rw [closeHandle_of_pending (h := s.handles.length) (by simp)] <;> simp

/-- Settles O39: the stop frame is written, and the delay is what R196 says. -/
theorem stopCallDelay : Obligations.StopCallDelay := by
  rintro s hard _ _ hw rfl rfl
  rw [exec_stopcmd, txCmd_of_writes_ok hw, returnAfterWrite_of_writes_ok (by exact hw)]
  rfl

/-- Settles O40: each call that writes is TXCMD with its report, what it does besides, and the free result. -/
theorem failedWriteLeavesResultFree : Obligations.FailedWriteLeavesResultFree := by
  rintro s _ _ hw rfl rfl
  refine ⟨⟨_, _, rfl, (List.take_append_drop _ _).symm⟩, ?_, ?_, ?_⟩
  · rintro cmd _ rfl
    rw [exec_txcmd, txCmd_of_writes_fail hw]
  · rintro m _ rfl
    refine ⟨fun hm hp => ?_, fun hm => ?_⟩
    · rw [exec_issue_bearing hm hp, txCmd_of_writes_fail hw, returnAfterWrite_of_writes_fail (by exact hw)]
      rfl
    · rw [exec_issue_other hm, txCmd_of_writes_fail hw, returnAfterWrite_of_writes_fail (by exact hw)]
  · rintro hard _ _ rfl rfl
    rw [exec_stopcmd, txCmd_of_writes_fail hw, returnAfterWrite_of_writes_fail (by exact hw)]
    rfl

/-- Settles O42: CLOSEFRAME is guarded by its buffer, and CANCEL finds nothing to settle. -/
theorem callsOutsideTheirPrecondition : Obligations.CallsOutsideTheirPrecondition := fun s =>
  ⟨exec_closeframe_of_rxBuf_eq_nil, fun hp => by rw [exec_cancel, closeHandle_of_free hp]⟩

/-- Settles O43: ACTIVE decides between the rejection and the reset block of a connection that begins. -/
theorem initStartsOrIsRejected : Obligations.InitStartsOrIsRejected := fun s =>
  ⟨fun hactive => if_pos hactive, fun hactive => if_neg (by simp [hactive])⟩

/-! The turns of the agenda (log 3). -/

section Turns

variable {s u : State} {t : Turn} {ts : List Turn}

theorem step_of_fetchTurn_run {i : Instr} (ha : s.agenda = t :: ts)
    (h : fetchTurn t { s with agenda := ts } = .run i u) : step s = exec i u :=
  step_of_run ((fetchNext_cons ha).trans h)

theorem step_of_fetchTurn_done (ha : s.agenda = t :: ts) (h : fetchTurn t { s with agenda := ts } = .done u) :
    step s = .next u :=
  step_of_done ((fetchNext_cons ha).trans h)

theorem step_of_fetchTurn_stop {r : Refusal} (ha : s.agenda = t :: ts)
    (h : fetchTurn t { s with agenda := ts } = .stop r) : step s = .refused r := by
  rw [step, fetchNext_cons ha, h]

/-- There is no instruction in no bytes. -/
theorem decode_nil_ne_ok (c : Config) (f : Format) (x : Instr × List Byte) : decode c f [] ≠ .ok x := by
  cases f <;> simp [decode, decodeCmd, decodeRsp, decodeWire]

theorem fetchEncoded_nil (f : Format) (s : State) : fetchEncoded f [] s = .done s := if_pos rfl

theorem fetchEncoded_ok {f : Format} {bs left : List Byte} {i : Instr} (h : decode s.cfg f bs = .ok (i, left)) :
    fetchEncoded f bs s = .run i (keepRest f left s) := by
  have hne : bs ≠ [] := by
    rintro rfl
    exact decode_nil_ne_ok s.cfg f _ h
  rw [fetchEncoded, if_neg hne, h]

theorem fetchEncoded_error {f : Format} {bs : List Byte} {e : DecodeError} (hne : bs ≠ [])
    (h : decode s.cfg f bs = .error e) : fetchEncoded f bs s = .stop (.undecodable e) := by
  rw [fetchEncoded, if_neg hne, h]

/-- The step of an encoded item whose first instruction is decoded (log 23). -/
theorem step_encoded {f : Format} {bs left : List Byte} {i : Instr} (ha : s.agenda = .encoded f bs :: ts)
    (h : decode s.cfg f bs = .ok (i, left)) :
    step s = exec i { s with agenda := if left = [] then ts else .encoded f left :: ts } := by
  have hfetch := fetchEncoded_ok (s := { s with agenda := ts }) h
  rw [keepRest_eq_ite] at hfetch
  exact step_of_fetchTurn_run ha hfetch

/-- The step of a transport notification (R215). -/
theorem step_transport {n : TransportNote} (ha : s.agenda = .transport n :: ts) :
    step s = .next (transportNote n { s with agenda := ts }) :=
  step_of_fetchTurn_done ha rfl

end Turns

/-- Settles O44: a notification is published; an error may end an INIT call, a close or disconnect the connection. -/
theorem transportPassesTheBlock : Obligations.TransportPassesTheBlock := by
  intro s n ts ha
  refine ⟨_, step_transport ha, ?_⟩
  rcases transportNote_cases n { s with agenda := ts } with ⟨info, rfl, h⟩ | ⟨hn, h⟩
  · rw [h, endInit_eq_ite]
    refine ⟨rfl, rfl, rfl, fun _ _ => ⟨rfl, rfl⟩, fun hclose => ?_⟩
    rcases hclose with hclose | hclose <;> cases hclose
  · rw [h]
    refine ⟨rfl, rfl, rfl, fun info herror => ?_, fun _ => ⟨rfl, fun hactive => by simp [hactive]⟩⟩
    rcases hn with rfl | rfl <;> cases herror

/-- Settles O46: the item's first instruction is decoded, and a placed table pattern is such an item. -/
theorem stepRunsTheInstruction : Obligations.StepRunsTheInstruction := by
  refine ⟨fun s f bs left ts i ha h => step_encoded ha h, fun s i ts ha => step_of_fetchTurn_run ha rfl,
    fun s f bs ts e ha hne h => step_of_fetchTurn_stop ha (fetchEncoded_error hne h), ?_⟩
  rintro s nbits w _ _ left i rfl rfl h
  exact step_encoded (s := s.withFetchWord nbits w) rfl h

/-- Settles O47: each turn is taken by its own arm of `fetchTurn`. -/
theorem stepTakesTheTurn : Obligations.StepTakesTheTurn := by
  refine ⟨fun s c cs ts ha hc => ?tx, fun s b bs ts ha hb => ?rx, fun s ts ha hc => ?txWaits, fun s ts ha hb => ?rxWaits,
    fun s c ts ha => step_of_fetchTurn_done ha rfl, fun s c ts ha => step_of_fetchTurn_done ha rfl,
    fun s d ts ha => step_of_fetchTurn_done ha rfl, fun s fail ts ha => step_of_fetchTurn_done ha rfl,
    fun s ts ha he => ?hostWaits, fun s f ts ha => step_of_fetchTurn_done ha (fetchEncoded_nil f _),
    fun s ha => step_of_done (fetchNext_nil ha)⟩
  case tx => exact step_of_fetchTurn_run ha (by simp only [fetchTurn, fetchTx, hc])
  case rx => exact step_of_fetchTurn_run ha (by simp only [fetchTurn, fetchRx, hb])
  case txWaits => exact step_of_fetchTurn_done ha (by simp only [fetchTurn, fetchTx, hc])
  case rxWaits => exact step_of_fetchTurn_done ha (by simp only [fetchTurn, fetchRx, hb])
  case hostWaits => exact step_of_fetchTurn_done ha (by simp only [fetchTurn, fetchEvent, he])

end Sys2Proof.Machine
end
